-- ==== Sys2Proof/Word.lean ====
section
/-! DEFINITION. The word types of the block (00_scope.md R6, "Fixed widths"). -/

namespace Sys2Proof

/-- A wire byte, a chip register address or a CSR index (8 bits). -/
abbrev Byte := BitVec 8

/-- A chip register value as carried by the frames (24 bits, unsigned). -/
abbrev Word24 := BitVec 24

/-- The packer's register width (32 bits). -/
abbrev Word32 := BitVec 32

/-- A CSR slot (64 bits). -/
abbrev Word64 := BitVec 64

end Sys2Proof
end

