-- ==== Sys2Proof/Machine/Params.lean ====
section
/-! DEFINITION. The source-fixed parameters of 00_scope.md R6, each under its own name, so that an audit of a
literal changes one definition and no rule. -/

namespace Sys2Proof.Config

/-- `RD_HDR` (00_scope.md R6). -/
def rdHdr : Byte := 0x58
/-- `WR_HDR` (00_scope.md R6). -/
def wrHdr : Byte := 0xA8
/-- `BULK_SUB` (00_scope.md R6). -/
def bulkSub : Byte := 0xAA
/-- `WP_ADDR`, the chip's write-protect register (00_scope.md R6, 20_memory.md R51). -/
def wpAddr : Byte := 0x1A
/-- `UNLOCK_CODE` (00_scope.md R6). -/
def unlockCode : Word24 := 0x55
/-- `LOCK_CODE` (00_scope.md R6). -/
def lockCode : Word24 := 0x00
/-- `MODE_ADDR`, the chip's mode-configuration register (00_scope.md R6, 20_memory.md R51). -/
def modeAddr : Byte := 0x18
/-- `ANGLE_ADDR`, the chip's phase-angle register (00_scope.md R6, 20_memory.md R51). -/
def angleAddr : Byte := 0x0C
/-- `RD_RESP_LEN` (00_scope.md R6). -/
def rdRespLen : Nat := 4
/-- `BULK_RESP_LEN` (00_scope.md R6, 90_conflicts.md C1). -/
def bulkRespLen : Nat := 35
/-- `RX_TIMEOUT_MS` (00_scope.md R6, R13). -/
def rxTimeoutMs : Nat := 500

/-- `VREF` in volts (00_scope.md R6). -/
def vref : ℚ := 1218 / 1000
/-- `KV_DEN` (00_scope.md R6). -/
def kvDen : ℚ := 79931
/-- `KI_DEN` (00_scope.md R6). -/
def kiDen : ℚ := 324004
/-- `KP_DEN` (00_scope.md R6). -/
def kpDen : ℚ := 4046
/-- `E_PULSE`: 1638.4 × 256 (00_scope.md R6). -/
def ePulse : ℚ := 16384 / 10 * 256
/-- `E_DEN` (00_scope.md R6). -/
def eDen : ℚ := 3600000
/-- `FS_ANGLE` in hertz (00_scope.md R6). -/
def fsAngle : ℚ := 1000000
/-- `T_A` of the temperature formula (00_scope.md R6). -/
def tA : ℚ := 170 / 448
/-- `T_B` of the temperature formula (00_scope.md R6). -/
def tB : ℚ := 2
/-- `T_C` of the temperature formula (00_scope.md R6). -/
def tC : ℚ := 32
/-- `T_D` of the temperature formula (00_scope.md R6). -/
def tD : ℚ := 45

end Sys2Proof.Config
end

