-- ==== Sys2Proof/Machine/Operands.lean ====
section
/-! DEFINITION. Operand forms: the 24-bit little-endian value of the link (20_memory.md R52, 41_frame_codec.md R120),
the host command word (30_encoding.md R81, R82), the fields of `CFG` (10_state.md R31) and the writable CSR
indices (10_state.md R22). -/

namespace Sys2Proof.Machine

/-- `ENC24(v)` (41_frame_codec.md R120): bits 7:0 first on the wire. -/
def enc24 (v : Word24) : List Byte :=
  [v.extractLsb' 0 8, v.extractLsb' 8 8, v.extractLsb' 16 8]

/-- `DEC24(b)` (41_frame_codec.md R120): `b[0] | b[1]<<8 | b[2]<<16`, zero-extended. -/
def dec24 (b : List Byte) : Word24 :=
  (b.getD 0 0).zeroExtend 24 ||| ((b.getD 1 0).zeroExtend 24 <<< 8) ||| ((b.getD 2 0).zeroExtend 24 <<< 16)

/-- `CMD.OPC`, bits 7:0 of a host command word (30_encoding.md R81). -/
def cmdOpc (w : Word64) : Byte := w.extractLsb' 0 8

/-- `CMD.ADDR`, bits 15:8 of a host command word (30_encoding.md R81). -/
def cmdAddr (w : Word64) : Byte := w.extractLsb' 8 8

/-- Bits 63:16 of a host command word, which must be 0 (30_encoding.md R81). -/
def cmdReserved (w : Word64) : BitVec 48 := w.extractLsb' 16 48

/-- The command word with opcode `opc` and address `a` (30_encoding.md R81, R85). -/
def cmdWord (opc a : Byte) : Word64 := opc.zeroExtend 64 ||| (a.zeroExtend 64 <<< 8)

/-- `OPC` of `READ_REG` (30_encoding.md R81). -/
def opcReadReg : Byte := 0x01
/-- `OPC` of `WRITE_REG` (30_encoding.md R81). -/
def opcWriteReg : Byte := 0x02
/-- `OPC` of `APPLY_SETTINGS` (30_encoding.md R81). -/
def opcApplySettings : Byte := 0x03
/-- `OPC` of `GET_READINGS` (30_encoding.md R81). -/
def opcGetReadings : Byte := 0x04

/-- `ILLEGAL_CMD(w)` (30_encoding.md R82): an unknown `OPC`, a nonzero reserved bit, or a nonzero `ADDR` for
`APPLY_SETTINGS` and `GET_READINGS`. -/
def illegalCmd (w : Word64) : Bool :=
  cmdReserved w != 0 ||
    !(cmdOpc w == opcReadReg || cmdOpc w == opcWriteReg ||
      ((cmdOpc w == opcApplySettings || cmdOpc w == opcGetReadings) && cmdAddr w == 0))

/-- `CFG.IFILT`, bits 1:0 (10_state.md R31). -/
def cfgIFilt (c : BitVec 6) : BitVec 2 := c.extractLsb' 0 2
/-- `CFG.VFILT`, bits 3:2 (10_state.md R31). -/
def cfgVFilt (c : BitVec 6) : BitVec 2 := c.extractLsb' 2 2
/-- `CFG.AVG`, bit 4 (10_state.md R31): `false` is 400 ms, `true` is 800 ms. -/
def cfgAvg (c : BitVec 6) : Bool := c.getLsbD 4
/-- `CFG.FREQ`, bit 5 (10_state.md R31): `false` is 50 Hz, `true` is 60 Hz. -/
def cfgFreq (c : BitVec 6) : Bool := c.getLsbD 5

/-- The value a `CFG` write would store is legal: code 3 in neither filter field (10_state.md R31, R32). -/
def cfgLegal (c : BitVec 6) : Bool := cfgIFilt c != 3 && cfgVFilt c != 3

/-- CSR indices whose host write has a row of its own in opcode_table.json: `CMD`, `ARG`, `CFG`, `CAL_DIV`,
`CAL_RSH` (10_state.md R22). A write to any other index is refused (44_sequencer.md R215). -/
def csrWritable (idx : Byte) : Bool :=
  idx == 0x00 || idx == 0x03 || idx == 0x05 || idx == 0x06 || idx == 0x07

end Sys2Proof.Machine
end

