-- ==== Sys2Proof/Machine/Packer.lean ====
section
/-! DEFINITION. The bit-field packer and the mode-register overlay (42_bitfield_packer.md R150 to R158), over given
mode-register parameters. -/

namespace Sys2Proof.Machine

/-- `EFFW(off, w)` (42_bitfield_packer.md R151): the width clamped at bit 31; 0 for `off >= 32`. -/
def effw (off w : Nat) : Nat := if 32 ≤ off then 0 else min w (32 - off)

/-- The mask `m` of `PACK` (42_bitfield_packer.md R150): `EFFW(off, w)` ones starting at bit `off`. -/
def fieldMask (off w : Nat) : Word32 := BitVec.ofNat 32 (((1 <<< effw off w) - 1) <<< off)

/-- `PACK(r, off, w, val)` (42_bitfield_packer.md R150). -/
def pack (r : Word32) (off w : Nat) (val : Word32) : Word32 :=
  (r &&& ~~~(fieldMask off w)) ||| ((val <<< off) &&& fieldMask off w)

/-- `FIELD(r, off, w)` (42_bitfield_packer.md R154). -/
def field (r : Word32) (off w : Nat) : Word32 :=
  (r >>> off) &&& BitVec.ofNat 32 ((1 <<< effw off w) - 1)

/-- The OPEN parameters of the chip's mode register (42_bitfield_packer.md R156): four offsets and the chip codes. -/
structure ModeParams where
  iFiltOff : Nat
  vFiltOff : Nat
  avgOff : Nat
  freqOff : Nat
  encFiltAc : BitVec 2
  encFiltDc : BitVec 2
  encFiltAll : BitVec 2
  encAvg400 : BitVec 1
  encAvg800 : BitVec 1
  encFreq50 : BitVec 1
  encFreq60 : BitVec 1
  deriving DecidableEq, Repr

/-- Two fields, `w1` bits at `o1` and `w2` bits at `o2`, do not overlap. -/
def fieldsApart (o1 w1 o2 w2 : Nat) : Bool := decide (o1 + w1 ≤ o2) || decide (o2 + w2 ≤ o1)

/-- The constraints 42_bitfield_packer.md R156 lets a model assume: every field in bits 23:0, no two fields overlap,
and each code map is injective. -/
def ModeParams.legal (p : ModeParams) : Bool :=
  decide (p.iFiltOff + 2 ≤ 24) && decide (p.vFiltOff + 2 ≤ 24) &&
  decide (p.avgOff + 1 ≤ 24) && decide (p.freqOff + 1 ≤ 24) &&
  fieldsApart p.iFiltOff 2 p.vFiltOff 2 && fieldsApart p.iFiltOff 2 p.avgOff 1 &&
  fieldsApart p.iFiltOff 2 p.freqOff 1 && fieldsApart p.vFiltOff 2 p.avgOff 1 &&
  fieldsApart p.vFiltOff 2 p.freqOff 1 && fieldsApart p.avgOff 1 p.freqOff 1 &&
  p.encFiltAc != p.encFiltDc && p.encFiltAc != p.encFiltAll && p.encFiltDc != p.encFiltAll &&
  p.encAvg400 != p.encAvg800 && p.encFreq50 != p.encFreq60

/-- `P_ref` of 42_bitfield_packer.md R156, the parameter set of the test vectors; not a claim about the chip. -/
def pRef : ModeParams where
  iFiltOff := 16
  vFiltOff := 18
  avgOff := 8
  freqOff := 9
  encFiltAc := 0
  encFiltDc := 1
  encFiltAll := 2
  encAvg400 := 0
  encAvg800 := 1
  encFreq50 := 0
  encFreq60 := 1

/-- `ENC_FILT(mode(code))` for a host filter code (42_bitfield_packer.md R157). Code 3 is illegal and never held by
`CFG` (10_state.md R31, R32); `reserved` is what it would give. -/
def encFilt (p : ModeParams) (reserved : BitVec 2) (code : BitVec 2) : BitVec 2 :=
  match code with
  | 0 => p.encFiltAc
  | 1 => p.encFiltDc
  | 2 => p.encFiltAll
  | 3 => reserved

/-- `ENC_AVG(mode(cfg.AVG))` (42_bitfield_packer.md R157). -/
def encAvg (p : ModeParams) (avg : Bool) : BitVec 1 := if avg then p.encAvg800 else p.encAvg400

/-- `ENC_FREQ(mode(cfg.FREQ))` (42_bitfield_packer.md R157). -/
def encFreq (p : ModeParams) (freq : Bool) : BitVec 1 := if freq then p.encFreq60 else p.encFreq50

/-- `MODE_OVERLAY(m, cfg)` (42_bitfield_packer.md R157): the four packs in the order of R155. -/
def modeOverlay (p : ModeParams) (reserved : BitVec 2) (m : Word32) (cfg : BitVec 6) : Word32 :=
  let m := pack m p.iFiltOff 2 ((encFilt p reserved (cfgIFilt cfg)).zeroExtend 32)
  let m := pack m p.vFiltOff 2 ((encFilt p reserved (cfgVFilt cfg)).zeroExtend 32)
  let m := pack m p.avgOff 1 ((encAvg p (cfgAvg cfg)).zeroExtend 32)
  pack m p.freqOff 1 ((encFreq p (cfgFreq cfg)).zeroExtend 32)

/-- The 24-bit value `APPLY_SETTINGS` writes for the mode value `m` it read:
`MODE_OVERLAY(zext_32(m), cfg)[23:0]` (42_bitfield_packer.md R158, 44_sequencer.md R205). -/
def modeWriteValue (p : ModeParams) (reserved : BitVec 2) (m : Word24) (cfg : BitVec 6) : Word24 :=
  (modeOverlay p reserved (m.zeroExtend 32) cfg).extractLsb' 0 24

end Sys2Proof.Machine
end

