-- ==== Sys2Proof/Machine/Binary64.lean ====
section
/-! DEFINITION. The binary64 encoding (10_state.md R21, 20_memory.md R53: bit 63 sign, bits 62:52 exponent, bits 51:0
fraction), its exact value, the calibration check (10_state.md R35), and rounding to nearest, ties to even
(00_scope.md R10). -/

namespace Sys2Proof.Machine

/-- The exponent field, bits 62:52. -/
def f64Exp (w : Word64) : Nat := (w.extractLsb' 52 11).toNat

/-- The fraction field, bits 51:0. -/
def f64Frac (w : Word64) : Nat := (w.extractLsb' 0 52).toNat

/-- The encoding is of a finite value: the exponent field is not all ones. -/
def f64Finite (w : Word64) : Bool := f64Exp w != 2047

/-- The significand of a finite encoding: the fraction, with the hidden bit of a normal number. -/
def f64Sig (w : Word64) : Nat := if f64Exp w = 0 then f64Frac w else 2 ^ 52 + f64Frac w

/-- The exact value of a finite encoding: its significand times a power of two, over `2^1074`. -/
def f64Val (w : Word64) : ℚ :=
  (if w.msb then -1 else 1) * ((f64Sig w * 2 ^ (f64Exp w - 1) : Nat) : ℚ) / (2 ^ 1074 : Nat)

/-- The largest finite binary64 value (43_scaler.md R170). -/
def f64Max : ℚ := (((2 ^ 53 - 1) * 2 ^ 971 : Nat) : ℚ)

/-- `CAL_DIV` and `CAL_RSH` accept exactly the encodings of finite values greater than 0, positive subnormals
included (10_state.md R35). -/
def calLegal (w : Word64) : Bool := f64Finite w && !w.msb && w != 0

/-- The exponent (of the last place) of the binary64 value nearest `n / d`: that of a 53-bit significand, and at
least -1074. -/
def roundExp (n d : Nat) : Int :=
  let e0 : Int := (Nat.log2 n : Int) - Nat.log2 d - 52
  let big : Bool := if 0 ≤ e0 then decide (2 ^ 52 * (d * 2 ^ e0.toNat) ≤ n) else decide (2 ^ 52 * d ≤ n * 2 ^ (-e0).toNat)
  max (-1074) (if big then e0 else e0 - 1)

/-- `n / d` rounded to the nearest integer, ties to even. -/
def roundQuot (n d : Nat) : Nat :=
  let q := n / d
  let r := n % d
  if d < 2 * r || (2 * r == d && q % 2 == 1) then q + 1 else q

/-- The binary64 encoding of the non-negative rational `n / d`, rounded to nearest, ties to even; too large a value
gives the encoding of +infinity (00_scope.md R10). -/
def f64OfNatQuot (n d : Nat) : Word64 :=
  if n = 0 then 0 else
    let e := roundExp n d
    let q := if 0 ≤ e then roundQuot n (d * 2 ^ e.toNat) else roundQuot (n * 2 ^ (-e).toNat) d
    BitVec.ofNat 64 (min ((e + 1074).toNat * 2 ^ 52 + q) (2047 * 2 ^ 52))

/-- `fl(x)` for one operation's exact result `x` (00_scope.md R10). -/
def f64Round (x : ℚ) : Word64 :=
  if x.num < 0 then f64OfNatQuot x.num.natAbs x.den ||| (1 <<< 63) else f64OfNatQuot x.num.natAbs x.den

end Sys2Proof.Machine
end

