-- ==== Sys2Proof/Machine/Scaler.lean ====
section
/-! DEFINITION. The scaler's exact values (43_scaler.md R171 to R181) and the conformance relation of R170. -/

namespace Sys2Proof.Machine

/-- `Kv` = Vref/79931/1000 (43_scaler.md R171). -/
def kv : ℚ := Config.vref / Config.kvDen / 1000
/-- `Ki` = Vref/324004/1000 (43_scaler.md R171). -/
def ki : ℚ := Config.vref / Config.kiDen / 1000
/-- `Kp` = Vref²/4046/1e6 (43_scaler.md R171). -/
def kp : ℚ := Config.vref * Config.vref / Config.kpDen / 1000000
/-- `Ke` = Kp × 1638.4 × 256/3,600,000 (43_scaler.md R171). -/
def ke : ℚ := kp * Config.ePulse / Config.eDen

/-- `SCALE_V*` in volts (43_scaler.md R173). -/
def scaleVExact (raw : Word24) (div : Word64) : ℚ := (raw.toNat : ℚ) * kv * f64Val div

/-- `SCALE_I*` in amperes (43_scaler.md R174). -/
def scaleIExact (raw : Word24) (rsh : Word64) : ℚ := (raw.toNat : ℚ) * ki / f64Val rsh

/-- `SCALE_P*` in watts (43_scaler.md R175). -/
def scalePExact (raw : Word24) (div rsh : Word64) : ℚ := (raw.toNat : ℚ) * kp * f64Val div / f64Val rsh

/-- `SCALE_E*` in kilowatt-hours (43_scaler.md R176). -/
def scaleEExact (cnt : Word24) (div rsh : Word64) : ℚ := (cnt.toNat : ℚ) * ke * f64Val div / f64Val rsh

/-- `SCALE_T*` in degrees Celsius (43_scaler.md R178): `raw/2` is not truncated. -/
def scaleTExact (raw : Word24) : ℚ := Config.tA * ((raw.toNat : ℚ) / Config.tB - Config.tC) - Config.tD

/-- The 16 significant bits of the phase-angle register (43_scaler.md R179). -/
def angleBits (raw : Word24) : BitVec 16 := raw.extractLsb' 0 16

/-- The line frequency in hertz for `CFG.FREQ` (43_scaler.md R179, R182). -/
def lineFreq (freq : Bool) : ℚ := if freq then 60 else 50

/-- `ANGLE_FRAC` of the 16 significant bits (43_scaler.md R179), exact and not reduced modulo 1. -/
def angleFrac (a : BitVec 16) (freq : Bool) : ℚ := (a.toNat : ℚ) * lineFreq freq / Config.fsAngle

/-- `SCALE_ANGLE*` in degrees (43_scaler.md R180), not reduced modulo 360. -/
def scaleAngleExact (frac : ℚ) : ℚ := frac * 360

/-- The relation of 43_scaler.md R170 between an exact value `x` and an output `y`: `y` is finite and
`|y - x| <= rel × |x| + abs`; an exact value beyond the largest finite binary64 leaves the output unconstrained
(R184). -/
def Conforms (rel abs : NNRat) (x : ℝ) (y : Word64) : Prop :=
  ((f64Max : ℚ) : ℝ) < |x| ∨
    (f64Finite y = true ∧ |((f64Val y : ℚ) : ℝ) - x| ≤ ((rel : ℚ) : ℝ) * |x| + ((abs : ℚ) : ℝ))

/-- +0.0 has the exact value 0. -/
theorem f64Val_zero : f64Val 0 = 0 := by
  have h : f64Sig 0 = 0 := by decide
  rw [f64Val, h, Nat.zero_mul, Nat.cast_zero, mul_zero, zero_div]

/-- With a relative tolerance of 1 the output +0.0 conforms: the relation of R170 is satisfiable. -/
theorem conforms_zero (x : ℝ) : Conforms 1 0 x 0 :=
  .inr ⟨by decide, by rw [f64Val_zero]; simp⟩

/-- Conformance of a `SCALE_PF` output for the cycle fraction `frac`: `SCALE_PF*` is the real cosine of `2π × frac`
(43_scaler.md R181, R170). -/
def PfConforms (rel abs : NNRat) (frac : ℚ) (y : Word64) : Prop :=
  Conforms rel abs (Real.cos (2 * Real.pi * (frac : ℝ))) y

end Sys2Proof.Machine
end

