-- ==== Sys2Proof/Config.lean ====
section
/-! DEFINITION. What the environment, a block's implementation or the OPEN parameters of 00_scope.md R6 leave free:
opaque constants, whose values no proof can see. The source-fixed parameters are in Machine/Params.lean. -/

namespace Sys2Proof

/-- One call of a transport primitive as the block makes it, with the environment's answer (00_scope.md R13). -/
inductive Call where
  | flush
  | send (frame : List Byte) (ok : Bool)
  | recv (n : Nat) (timeoutMs : Nat) (bytes : List Byte)
  deriving DecidableEq, Repr

/-- The answer of the environment to `TxSend(frame)` after the transport calls `done`: a free value
(20_memory.md R56; 93_implementation_defined.md I4; log entry 1). -/
opaque Config.txAnswer (done : List Call) (frame : List Byte) : Bool

/-- The bytes that arrive on the link for `RxRecv(n, …)` after the transport calls `done`: a free value
(20_memory.md R56; 93_implementation_defined.md I3; log entry 1). -/
opaque Config.rxArrivals (done : List Call) (n : Nat) : List Byte

/-- Mode-register parameters with the constraints of 42_bitfield_packer.md R156. The defaults only show that some
parameters meet them. -/
structure Config.ModeLayout where
  params : Machine.ModeParams := Machine.pRef
  legal : params.legal = true := by decide
  deriving Inhabited

/-- The chip's mode-register parameters: free within the constraints of 42_bitfield_packer.md R156 (OPEN, D7; log
entry 11). -/
opaque Config.modeLayout : Config.ModeLayout

/-- The chip code the illegal filter code 3 would give: a free value; `CFG` never holds code 3 (10_state.md R31;
log entry 13). -/
opaque Config.reservedFilterCode : BitVec 2

/-- A block's scaler with its tolerances, as 43_scaler.md R170 allows it: seven functions of the inputs, each within
its tolerance of the exact value for every input (for calibrations a `CAL_*` register can hold). The tolerances are
OPEN parameters (D9). The defaults only show that some scaler conforms for some tolerances. -/
structure Config.Scaler where
  /-- `SCALE_TOL_REL`. -/
  tolRel : NNRat := 1
  /-- `SCALE_TOL_ABS`. -/
  tolAbs : NNRat := 0
  /-- `PF_TOL_ABS`. -/
  pfTolAbs : NNRat := 0
  /-- `SCALE_V(raw, div)`. -/
  v : Word24 → Word64 → Word64 := fun _ _ => 0
  /-- `SCALE_I(raw, rsh)`. -/
  i : Word24 → Word64 → Word64 := fun _ _ => 0
  /-- `SCALE_P(raw, div, rsh)`. -/
  p : Word24 → Word64 → Word64 → Word64 := fun _ _ _ => 0
  /-- `SCALE_E(cnt, div, rsh)`. -/
  e : Word24 → Word64 → Word64 → Word64 := fun _ _ _ => 0
  /-- `SCALE_T(raw)`. -/
  t : Word24 → Word64 := fun _ => 0
  /-- `SCALE_ANGLE(ANGLE_FRAC(a, freq))`, of the 16 significant bits `a`. -/
  angle : BitVec 16 → Bool → Word64 := fun _ _ => 0
  /-- `SCALE_PF(ANGLE_FRAC(a, freq))`, of the 16 significant bits `a`. -/
  pf : BitVec 16 → Bool → Word64 := fun _ _ => 0
  v_conforms : ∀ raw div, Machine.calLegal div = true →
      Machine.Conforms tolRel tolAbs ((Machine.scaleVExact raw div : ℚ) : ℝ) (v raw div) := by
    intros; exact Machine.conforms_zero _
  i_conforms : ∀ raw rsh, Machine.calLegal rsh = true →
      Machine.Conforms tolRel tolAbs ((Machine.scaleIExact raw rsh : ℚ) : ℝ) (i raw rsh) := by
    intros; exact Machine.conforms_zero _
  p_conforms : ∀ raw div rsh, Machine.calLegal div = true → Machine.calLegal rsh = true →
      Machine.Conforms tolRel tolAbs ((Machine.scalePExact raw div rsh : ℚ) : ℝ) (p raw div rsh) := by
    intros; exact Machine.conforms_zero _
  e_conforms : ∀ cnt div rsh, Machine.calLegal div = true → Machine.calLegal rsh = true →
      Machine.Conforms tolRel tolAbs ((Machine.scaleEExact cnt div rsh : ℚ) : ℝ) (e cnt div rsh) := by
    intros; exact Machine.conforms_zero _
  t_conforms : ∀ raw, Machine.Conforms tolRel tolAbs ((Machine.scaleTExact raw : ℚ) : ℝ) (t raw) := by
    intros; exact Machine.conforms_zero _
  angle_conforms : ∀ a freq,
      Machine.Conforms tolRel tolAbs ((Machine.scaleAngleExact (Machine.angleFrac a freq) : ℚ) : ℝ) (angle a freq) := by
    intros; exact Machine.conforms_zero _
  pf_conforms : ∀ a freq, Machine.PfConforms tolRel pfTolAbs (Machine.angleFrac a freq) (pf a freq) := by
    intros; exact Machine.conforms_zero _
  deriving Inhabited

/-- The block's scaler: any scaler with any tolerances that conforms (43_scaler.md R170, D9; log entry 12). -/
opaque Config.scaler : Config.Scaler

end Sys2Proof
end

