-- ==== Sys2Proof/Machine/Flags.lean ====
section
/-! DEFINITION. The block's only status indications (10_state.md R41): the error kind in `ERR.KIND` and the two bits of
`STATUS`. It has no condition codes, carry or overflow flag. -/

namespace Sys2Proof.Machine

/-- The error kinds of 60_exceptions.md R240, mutually exclusive; codes 5, 6 and 7 are never held (10_state.md R27). -/
inductive ErrKind where
  | none
  | readLength
  | readChecksum
  | writeSend
  | writeVerify
  deriving DecidableEq, Repr

/-- The code of a kind in `ERR.KIND` (60_exceptions.md R240). -/
def errCode : ErrKind → BitVec 3
  | .none => 0
  | .readLength => 1
  | .readChecksum => 2
  | .writeSend => 3
  | .writeVerify => 4

/-- The slot of `ERR`: `KIND` in bits 2:0, the rest 0 (10_state.md R27). -/
def errWord (k : ErrKind) : Word64 := (errCode k).zeroExtend 64

/-- The slot of `STATUS`: `ILL` in bit 0, `SNAP_VALID` in bit 1, the rest 0 (10_state.md R28). -/
def statusWord (ill snapValid : Bool) : Word64 :=
  (BitVec.ofBool ill).zeroExtend 64 ||| ((BitVec.ofBool snapValid).zeroExtend 64 <<< 1)

/-- The outcome of a frame check (41_frame_codec.md R122, R129): the decoded value, or the error kind and no value. -/
inductive Checked (α : Type) where
  | ok (v : α)
  | bad (k : ErrKind)
  deriving DecidableEq, Repr

end Sys2Proof.Machine
end

