-- ==== Sys2Proof/Syntax.lean ====
section
/-! DEFINITION. The instructions: one constructor for each row of spec/opcode_table.json, and the events at the
block's two ports that encode them (30_encoding.md R71, R81, R83). -/

namespace Sys2Proof

/-- A `BULK_RESP` frame by its fields, in wire order (30_encoding.md R76). -/
structure BulkFrame where
  /-- `H`, byte 0: not checked (41_frame_codec.md R131). -/
  header : Byte
  /-- `I_FAST`, bytes 1..3. -/
  iFast : Word24
  /-- `I`, bytes 4..6. -/
  i : Word24
  /-- `U7`, bytes 7..9, not named. -/
  u7 : Word24
  /-- `V`, bytes 10..12. -/
  v : Word24
  /-- `U13`, bytes 13..15, not named. -/
  u13 : Word24
  /-- `P`, bytes 16..18. -/
  p : Word24
  /-- `U19`, bytes 19..21, not named. -/
  u19 : Word24
  /-- `CNT`, bytes 22..24. -/
  cnt : Word24
  /-- `U25`, bytes 25..27, not named. -/
  u25 : Word24
  /-- `T_INT`, bytes 28..30. -/
  tInt : Word24
  /-- `T_EXT`, bytes 31..33. -/
  tExt : Word24
  /-- `C`, byte 34. -/
  cksum : Byte
  deriving DecidableEq, Repr

/-- The rows of spec/opcode_table.json. -/
inductive Instr where
  /-- `RD_CMD`: the block emits a read command for address `a` (41_frame_codec.md R121). -/
  | rdCmd (a : Byte)
  /-- `RD_RESP`: a read response with value `v` and checksum byte `c` arrives (R122). -/
  | rdResp (v : Word24) (c : Byte)
  /-- `WR_CMD`: the block emits the write frame for address `a` and value `v`, with checksum byte `c` (R124). -/
  | wrCmd (a : Byte) (v : Word24) (c : Byte)
  /-- `BULK_CMD`: the block emits the bulk-read command (R127). -/
  | bulkCmd
  /-- `BULK_RESP`: a bulk response arrives (R129). -/
  | bulkResp (f : BulkFrame)
  /-- `READ_REG a` (44_sequencer.md R208). -/
  | readReg (a : Byte)
  /-- `WRITE_REG a` (R209). -/
  | writeReg (a : Byte)
  /-- `APPLY_SETTINGS` (R210). -/
  | applySettings
  /-- `GET_READINGS` (R211). -/
  | getReadings
  /-- `CSRW_CMD`: host write of `w` to `CMD` (R200). -/
  | csrwCmd (w : Word64)
  /-- `CSRW_ARG`: host write of `w` to `ARG` (R212). -/
  | csrwArg (w : Word64)
  /-- `CSRW_CFG`: host write of `w` to `CFG` (R213). -/
  | csrwCfg (w : Word64)
  /-- `CSRW_CAL_DIV`: host write of `w` to `CAL_DIV` (R214). -/
  | csrwCalDiv (w : Word64)
  /-- `CSRW_CAL_RSH`: host write of `w` to `CAL_RSH` (R214). -/
  | csrwCalRsh (w : Word64)
  /-- `CSRW_REFUSED`: host write of `w` to a read-only or unimplemented index (R215). -/
  | csrwRefused (idx : Byte) (w : Word64)
  /-- `CSRR`: host read of any index (R216). -/
  | csrr (idx : Byte)
  deriving DecidableEq, Repr

/-- What the block's ports carry: a host access by CSR index and data word (30_encoding.md R83), or the bytes of a
frame on the link in wire order (R70). -/
inductive PortEvent where
  | hostWrite (idx : Byte) (data : Word64)
  | hostRead (idx : Byte)
  | frame (bytes : List Byte)
  deriving DecidableEq, Repr

end Sys2Proof
end

