-- ==== Sys2Proof/Machine/Codec.lean ====
section
/-! DEFINITION. The checksum unit (40_checksum.md R100 to R105) and the frame encoder and decoder (41_frame_codec.md
R121 to R131). All of it is combinational. -/

namespace Sys2Proof.Machine

/-- The exact sum of the bytes (00_scope.md R9). -/
def byteSum (bs : List Byte) : Nat := (bs.map BitVec.toNat).sum

/-- `CKSUM(bs)` (40_checksum.md R100): the one's complement of the low byte of the sum. -/
def cksum (bs : List Byte) : Byte := ~~~(BitVec.ofNat 8 (byteSum bs))

/-- `CKCHK(bs, c)` (40_checksum.md R102). -/
def ckchk (bs : List Byte) (c : Byte) : Bool := c == cksum bs

/-- `ENC_RD(a)` (41_frame_codec.md R121). -/
def encRd (a : Byte) : List Byte := [Config.rdHdr, a]

/-- `DEC_RD(a, rs)` (41_frame_codec.md R122): length first, then the checksum over the command bytes sent and the
payload (40_checksum.md R104). -/
def decRd (a : Byte) (rs : List Byte) : Checked Word24 :=
  if rs.length < Config.rdRespLen then .bad .readLength
  else if !ckchk ([Config.rdHdr, a] ++ rs.take 3) (rs.getD 3 0) then .bad .readChecksum
  else .ok (dec24 (rs.take 3))

/-- The bytes of a `WR_CMD` pattern, whatever its checksum byte (30_encoding.md R74). -/
def wrBytes (a : Byte) (v : Word24) (c : Byte) : List Byte := [Config.wrHdr, a] ++ enc24 v ++ [c]

/-- `ENC_WR(a, v)` (41_frame_codec.md R124): the checksum is over the preceding 5 bytes (40_checksum.md R103). -/
def encWr (a : Byte) (v : Word24) : List Byte :=
  wrBytes a v (cksum ([Config.wrHdr, a] ++ enc24 v))

/-- `ENC_BULK()` (41_frame_codec.md R127). -/
def encBulk : List Byte := [Config.rdHdr, Config.bulkSub]

/-- `BULK_FIELD(rs, o)` (41_frame_codec.md R128). -/
def bulkField (rs : List Byte) (o : Nat) : Word24 := dec24 ((rs.drop o).take 3)

/-- The fields `DEC_BULK` produces (41_frame_codec.md R129). -/
structure BulkFields where
  iFast : Word24
  i : Word24
  v : Word24
  p : Word24
  cnt : Word24
  tInt : Word24
  tExt : Word24
  deriving DecidableEq, Repr

/-- `DEC_BULK(rs)` (41_frame_codec.md R129): length first, then the checksum over the command's header byte and the 34
bytes before the checksum (40_checksum.md R105); offsets of 30_encoding.md R76. -/
def decBulk (rs : List Byte) : Checked BulkFields :=
  if rs.length < Config.bulkRespLen then .bad .readLength
  else if !ckchk ([Config.rdHdr] ++ rs.take 34) (rs.getD 34 0) then .bad .readChecksum
  else .ok
    { iFast := bulkField rs 1, i := bulkField rs 4, v := bulkField rs 10, p := bulkField rs 16,
      cnt := bulkField rs 22, tInt := bulkField rs 28, tExt := bulkField rs 31 }

/-- The bytes of a `RD_RESP` frame (30_encoding.md R73). -/
def rdRespBytes (v : Word24) (c : Byte) : List Byte := enc24 v ++ [c]

/-- The bytes of a `BULK_RESP` frame (30_encoding.md R76). -/
def bulkRespBytes (f : BulkFrame) : List Byte :=
  [f.header] ++ enc24 f.iFast ++ enc24 f.i ++ enc24 f.u7 ++ enc24 f.v ++ enc24 f.u13 ++ enc24 f.p ++ enc24 f.u19 ++
    enc24 f.cnt ++ enc24 f.u25 ++ enc24 f.tInt ++ enc24 f.tExt ++ [f.cksum]

/-- The fields of 35 bytes laid out as 30_encoding.md R76 says. -/
def bulkFrameOf (bs : List Byte) : BulkFrame where
  header := bs.getD 0 0
  iFast := bulkField bs 1
  i := bulkField bs 4
  u7 := bulkField bs 7
  v := bulkField bs 10
  u13 := bulkField bs 13
  p := bulkField bs 16
  u19 := bulkField bs 19
  cnt := bulkField bs 22
  u25 := bulkField bs 25
  tInt := bulkField bs 28
  tExt := bulkField bs 31
  cksum := bs.getD 34 0

end Sys2Proof.Machine
end

