-- ==== Sys2Proof/WellFormed.lean ====
section
/-! DEFINITION. Which terms of `Instr` an encoding stands for. -/

namespace Sys2Proof

/-- The term has an encoding of its own: `RD_CMD` with address 0xAA has the bytes of `BULK_CMD` (30_encoding.md R80);
a legal command word written to `CMD` is its host command (R81); `CSRW_REFUSED` is for the indices no other row
takes (44_sequencer.md R215); the checksum byte of a write frame is that of its other five (40_checksum.md R103,
R106). -/
def Instr.wellFormed : Instr → Bool
  | .rdCmd a => a != Config.bulkSub
  | .rdResp _ _ => true
  | .wrCmd a v c => Machine.encWr a v == Machine.wrBytes a v c
  | .bulkCmd => true
  | .bulkResp _ => true
  | .readReg _ => true
  | .writeReg _ => true
  | .applySettings => true
  | .getReadings => true
  | .csrwCmd w => Machine.illegalCmd w
  | .csrwArg _ => true
  | .csrwCfg _ => true
  | .csrwCalDiv _ => true
  | .csrwCalRsh _ => true
  | .csrwRefused idx _ => !Machine.csrWritable idx
  | .csrr _ => true

end Sys2Proof
end

