-- ==== Sys2Proof/Decode.lean ====
section
/-! DEFINITION. The decoder, total on every port event and rejecting by name, the encoder written from the same
tables (30_encoding.md), and the reading of an opcode-table word. -/

namespace Sys2Proof

/-- Why bytes on the link are none of the five frames (30_encoding.md R71). -/
inductive DecodeError where
  /-- The length is that of no frame kind: 2, 4, 6 or 35 (R84). -/
  | frameLength
  /-- A frame of a command's length whose first byte is not that command's header (R72, R74, R75). -/
  | header
  deriving DecidableEq, Repr

/-- The instruction a write of `w` to `CMD` is: its host command, or for an illegal word the refused write
(30_encoding.md R81, R82). -/
def decodeCommand (w : Word64) : Instr :=
  if Machine.illegalCmd w then .csrwCmd w
  else if Machine.cmdOpc w = Machine.opcReadReg then .readReg (Machine.cmdAddr w)
  else if Machine.cmdOpc w = Machine.opcWriteReg then .writeReg (Machine.cmdAddr w)
  else if Machine.cmdOpc w = Machine.opcApplySettings then .applySettings
  else .getReadings

/-- The instruction a host write is, by its CSR index (30_encoding.md R83, 10_state.md R22). -/
def decodeWrite (idx : Byte) (w : Word64) : Instr :=
  if idx = 0x00 then decodeCommand w
  else if idx = 0x03 then .csrwArg w
  else if idx = 0x05 then .csrwCfg w
  else if idx = 0x06 then .csrwCalDiv w
  else if idx = 0x07 then .csrwCalRsh w
  else .csrwRefused idx w

/-- The frame some bytes are, by their number (30_encoding.md R71, R84). -/
def decodeFrame (bs : List Byte) : Except DecodeError Instr :=
  if bs.length = 2 then
    if bs.getD 0 0 = Config.rdHdr then
      if bs.getD 1 0 = Config.bulkSub then .ok .bulkCmd else .ok (.rdCmd (bs.getD 1 0))
    else .error .header
  else if bs.length = 4 then .ok (.rdResp (Machine.dec24 (bs.take 3)) (bs.getD 3 0))
  else if bs.length = 6 then
    if bs.getD 0 0 = Config.wrHdr then
      .ok (.wrCmd (bs.getD 1 0) (Machine.dec24 ((bs.drop 2).take 3)) (bs.getD 5 0))
    else .error .header
  else if bs.length = 35 then .ok (.bulkResp (Machine.bulkFrameOf bs))
  else .error .frameLength

/-- The instruction a port event stands for. -/
def decode : PortEvent → Except DecodeError Instr
  | .hostWrite idx w => .ok (decodeWrite idx w)
  | .hostRead idx => .ok (.csrr idx)
  | .frame bs => decodeFrame bs

/-- The port event of an instruction (30_encoding.md R71 to R76, R81, R83). -/
def encode : Instr → PortEvent
  | .rdCmd a => .frame (Machine.encRd a)
  | .rdResp v c => .frame (Machine.rdRespBytes v c)
  | .wrCmd a v c => .frame (Machine.wrBytes a v c)
  | .bulkCmd => .frame Machine.encBulk
  | .bulkResp f => .frame (Machine.bulkRespBytes f)
  | .readReg a => .hostWrite 0x00 (Machine.cmdWord Machine.opcReadReg a)
  | .writeReg a => .hostWrite 0x00 (Machine.cmdWord Machine.opcWriteReg a)
  | .applySettings => .hostWrite 0x00 (Machine.cmdWord Machine.opcApplySettings 0)
  | .getReadings => .hostWrite 0x00 (Machine.cmdWord Machine.opcGetReadings 0)
  | .csrwCmd w => .hostWrite 0x00 w
  | .csrwArg w => .hostWrite 0x03 w
  | .csrwCfg w => .hostWrite 0x05 w
  | .csrwCalDiv w => .hostWrite 0x06 w
  | .csrwCalRsh w => .hostWrite 0x07 w
  | .csrwRefused idx w => .hostWrite idx w
  | .csrr idx => .hostRead idx

/-- The `n` bytes of a table word, byte 0 the most significant: the table writes a frame's pattern byte 0 first, each
byte most significant bit first, as one number (opcode_table.json "format"; 30_encoding.md R70; log entry 6). -/
def tableBytes (n w : Nat) : List Byte := (List.range n).map fun k => BitVec.ofNat 8 (w >>> (8 * (n - 1 - k)))

/-- The port event of an opcode-table word: 8 bits are the CSR index of a host write (its data word, which the table
gives no bits, is 0), 64 bits a command word written to `CMD`, and 16, 32, 48 and 280 bits a frame (log entry 6). -/
def tableEvent (nbits w : Nat) : Option PortEvent :=
  match nbits with
  | 8 => some (.hostWrite (BitVec.ofNat 8 w) 0)
  | 64 => some (.hostWrite 0x00 (BitVec.ofNat 64 w))
  | 16 => some (.frame (tableBytes 2 w))
  | 32 => some (.frame (tableBytes 4 w))
  | 48 => some (.frame (tableBytes 6 w))
  | 280 => some (.frame (tableBytes 35 w))
  | _ => none

/-- The instruction the decoder reads from an opcode-table word of `nbits` bits. -/
def decodeTableWord (nbits w : Nat) : Option Instr :=
  match tableEvent nbits w with
  | some e =>
    match decode e with
    | .ok i => some i
    | .error _ => none
  | none => none

end Sys2Proof
end

