-- ==== Sys2Proof/Machine/State.lean ====
section
/-! DEFINITION. The state of the block (10_state.md R20), the environment at its ports, the reasons a step can stop,
and the state after reset (70_reset_and_hazards.md R270). -/

namespace Sys2Proof.Machine

/-- The step names of `SEQ` (10_state.md R24). -/
inductive SeqStep where
  | rdSend
  | rdRecv
  | wrUnlock
  | wrWrite
  | wrVerify
  | wrRelock
  | asRead
  | asWrite
  | grSend
  | grRecv
  | grAngle
  | grCommit
  deriving DecidableEq, Repr

/-- The transient values of one host command that pass from one sequencer step to a later one (10_state.md R39). -/
structure Txn where
  /-- The chip register address of the running transaction. -/
  addr : Byte
  /-- The value operand of `WRITE_TXN`. -/
  value : Word24
  /-- The command frame last sent. -/
  sent : List Byte
  /-- The value the last `READ_TXN` decoded. -/
  readBack : Word24
  /-- The decoded bulk fields awaiting the commit. -/
  fields : Option BulkFields
  deriving DecidableEq, Repr

/-- The measurement snapshot, seven binary64 encodings (10_state.md R36). -/
structure Snapshot where
  v : Word64
  i : Word64
  p : Word64
  e : Word64
  t : Word64
  angle : Word64
  pf : Word64
  deriving DecidableEq, Repr

/-- The serial link as the block meets it: environment, not state of the block (10_state.md R40; 20_memory.md R56). -/
structure Link where
  /-- The receive buffer: bytes received and not yet returned (10_state.md R40). -/
  rxBuf : List Byte
  /-- The answers the coming `TxSend` calls get; past its end, `Config.txAnswer` (log entry 1). -/
  sendAnswers : List Bool
  /-- The bytes that arrive for each coming `RxRecv` call; past its end, `Config.rxArrivals` (log entry 1). -/
  arrivals : List (List Byte)
  /-- The transport calls made so far, oldest first (log entry 3). -/
  log : List Call
  deriving DecidableEq, Repr

/-- What the environment does at the block's ports next (log entry 4). -/
inductive Input where
  /-- A port event, run to completion (20_memory.md R61). -/
  | event (e : PortEvent)
  /-- The same port event with its command run one sequencer step at a time (44_sequencer.md R217). -/
  | stepwise (e : PortEvent)
  /-- Any bytes that arrive on the link from the chip, a whole frame or not (30_encoding.md R79). -/
  | arrive (bytes : List Byte)
  /-- The reset input, asserted after `steps` more sequencer steps of the running command, and at once at IDLE
  (70_reset_and_hazards.md R270, R273). -/
  | reset (steps : Nat)
  deriving DecidableEq, Repr

/-- The state of the block, its link and its ports. -/
structure State where
  /-- `CMD` (10_state.md R26). -/
  cmd : Word64
  /-- `ERR.KIND` (10_state.md R27). -/
  err : ErrKind
  /-- `STATUS.ILL` (10_state.md R28). -/
  ill : Bool
  /-- `STATUS.SNAP_VALID` (10_state.md R28). -/
  snapValid : Bool
  /-- `ARG` (10_state.md R29). -/
  arg : Word24
  /-- `RESULT` (10_state.md R30). -/
  result : Word24
  /-- `CFG` (10_state.md R31). -/
  cfg : BitVec 6
  /-- `CAL_DIV` (10_state.md R33). -/
  calDiv : Word64
  /-- `CAL_RSH` (10_state.md R34). -/
  calRsh : Word64
  /-- `SNAP_V` .. `SNAP_PF` (10_state.md R36). -/
  snap : Snapshot
  /-- `RAW_IFAST` .. `RAW_TEXT` (10_state.md R37). -/
  raw : BulkFields
  /-- `RAW_ANGLE` (10_state.md R37). -/
  angleRaw : Word24
  /-- `SEQ`, outermost step first; the empty list is `IDLE` (10_state.md R24). -/
  seq : List SeqStep
  /-- The transient values of the running command; none at `IDLE` (10_state.md R39). -/
  txn : Option Txn
  /-- The link (10_state.md R40). -/
  link : Link
  /-- What the environment does next at the ports. -/
  inputs : List Input
  /-- The slots host reads have returned, oldest first (44_sequencer.md R216). -/
  replies : List Word64
  deriving DecidableEq, Repr

/-- Why the machine stops with a fault. -/
inductive Fault where
  /-- Raised by a sequencer step when `SEQ` and the transient values are in a combination the transition table
  (44_sequencer.md R217) has no row for. No run from reset reaches one. Safe: the model stops. -/
  | sequencerIllegal
  deriving DecidableEq, Repr

/-- Why a step has no meaning. -/
inductive Refusal where
  /-- Raised by the dispatcher for an instruction that has no meaning yet. Safe: the model stops. -/
  | notModelled (mnemonic : String)
  deriving DecidableEq, Repr

/-- The seven raw fields with every field 0. -/
def zeroFields : BulkFields where
  iFast := 0
  i := 0
  v := 0
  p := 0
  cnt := 0
  tInt := 0
  tExt := 0

/-- The snapshot with every value +0.0. -/
def zeroSnapshot : Snapshot where
  v := 0
  i := 0
  p := 0
  e := 0
  t := 0
  angle := 0
  pf := 0

/-- The binary64 encoding of 1.0, the reset value of `CAL_DIV` and `CAL_RSH` (10_state.md R22). -/
def calOne : Word64 := 0x3FF0000000000000

/-- The machine right after reset (70_reset_and_hazards.md R270), with nothing on the link and nothing at the ports. -/
def State.reset : State where
  cmd := 0
  err := .none
  ill := false
  snapValid := false
  arg := 0
  result := 0
  cfg := 0
  calDiv := calOne
  calRsh := calOne
  snap := zeroSnapshot
  raw := zeroFields
  angleRaw := 0
  seq := []
  txn := none
  link := { rxBuf := [], sendAnswers := [], arrivals := [], log := [] }
  inputs := []
  replies := []

end Sys2Proof.Machine
end

