-- ==== Sys2Proof/Machine/Ops.lean ====
section
/-! DEFINITION. The named operations every meaning is built from: the transport primitives (00_scope.md R13), the
failure primitive (R14), acceptance and refusal of host writes (60_exceptions.md R248), reset (70_reset_and_hazards.md
R270) and the host's read of a CSR (44_sequencer.md R216). The block has no memory (00_scope.md R12) and no trap
(60_exceptions.md R246): `fail` is what stands in a trap's place. -/

namespace Sys2Proof.Machine

/-- `RxFlush()` (00_scope.md R13): the receive buffer is emptied. -/
def rxFlush (s : State) : State :=
  { s with link := { s.link with rxBuf := [], log := s.link.log ++ [.flush] } }

/-- The environment's answer to the next `TxSend` of `f` (20_memory.md R56). -/
def nextAnswer (f : List Byte) (s : State) : Bool :=
  match s.link.sendAnswers with
  | ok :: _ => ok
  | [] => Config.txAnswer s.link.log f

/-- `TxSend(f)` (00_scope.md R13). -/
def txSend (f : List Byte) (s : State) : Bool × State :=
  (nextAnswer f s,
    { s with link := { s.link with
        sendAnswers := s.link.sendAnswers.tail
        log := s.link.log ++ [.send f (nextAnswer f s)] } })

/-- `SEND_FRAME(f)` (44_sequencer.md R204): a flush, then the send. -/
def sendFrame (f : List Byte) (s : State) : Bool × State := txSend f (rxFlush s)

/-- The bytes the environment lets arrive for the next `RxRecv(n, …)` (20_memory.md R56). -/
def nextArrivals (n : Nat) (s : State) : List Byte :=
  match s.link.arrivals with
  | bs :: _ => bs
  | [] => Config.rxArrivals s.link.log n

/-- The receive buffer when the next `RxRecv(n, …)` returns, before the returned bytes leave it. -/
def received (n : Nat) (s : State) : List Byte := s.link.rxBuf ++ nextArrivals n s

/-- `RxRecv(n, RX_TIMEOUT_MS)` (00_scope.md R13): at most `n` bytes; what is beyond stays in the receive buffer
(41_frame_codec.md R132). -/
def rxRecv (n : Nat) (s : State) : List Byte × State :=
  ((received n s).take n,
    { s with link := { s.link with
        rxBuf := (received n s).drop n
        arrivals := s.link.arrivals.tail
        log := s.link.log ++ [.recv n Config.rxTimeoutMs ((received n s).take n)] } })

/-- The state effect of `fail K` (00_scope.md R14); the transaction that fails returns `false`. -/
def fail (k : ErrKind) (s : State) : State := { s with err := k }

/-- `SEQ` back to `IDLE`, the transient values gone (10_state.md R39, 44_sequencer.md R200). -/
def toIdle (s : State) : State := { s with seq := [], txn := none }

/-- `SEQ` at the stack `st` with the transient values `t`. -/
def atSteps (st : List SeqStep) (t : Txn) (s : State) : State := { s with seq := st, txn := some t }

/-- An accepted host write clears `STATUS.ILL` (10_state.md R28). -/
def accepted (s : State) : State := { s with ill := false }

/-- A refused host write sets `STATUS.ILL` and changes nothing else (60_exceptions.md R248). -/
def refuseWrite (s : State) : State := { s with ill := true }

/-- The acceptance of the command word `w` and the first step of every host command: `ILL <- 0`, `CMD <- w`,
`ERR <- None` (44_sequencer.md R200, R201). -/
def acceptCommand (w : Word64) (s : State) : State := { s with ill := false, cmd := w, err := .none }

/-- Reset (70_reset_and_hazards.md R270, R273): every CSR takes its reset value, `SEQ` is `IDLE` and the transient
values are gone. The link, what the environment does next and what the host has read are not the block's
(R272). -/
def resetBlock (s : State) : State :=
  { State.reset with link := s.link, inputs := s.inputs, replies := s.replies }

/-- The 64-bit slot of a CSR index (10_state.md R21, R22): unused high bits 0, unimplemented indices 0. -/
def csrRead (idx : Byte) (s : State) : Word64 :=
  match idx with
  | 0x00 => s.cmd
  | 0x01 => errWord s.err
  | 0x02 => statusWord s.ill s.snapValid
  | 0x03 => s.arg.zeroExtend 64
  | 0x04 => s.result.zeroExtend 64
  | 0x05 => s.cfg.zeroExtend 64
  | 0x06 => s.calDiv
  | 0x07 => s.calRsh
  | 0x08 => s.snap.v
  | 0x09 => s.snap.i
  | 0x0A => s.snap.p
  | 0x0B => s.snap.e
  | 0x0C => s.snap.t
  | 0x0D => s.snap.angle
  | 0x0E => s.snap.pf
  | 0x10 => s.raw.iFast.zeroExtend 64
  | 0x11 => s.raw.i.zeroExtend 64
  | 0x12 => s.raw.v.zeroExtend 64
  | 0x13 => s.raw.p.zeroExtend 64
  | 0x14 => s.raw.cnt.zeroExtend 64
  | 0x15 => s.raw.tInt.zeroExtend 64
  | 0x16 => s.raw.tExt.zeroExtend 64
  | 0x17 => s.angleRaw.zeroExtend 64
  | _ => 0

/-- The snapshot the scaler gives for the decoded fields, the angle register value and the calibration and line
frequency that hold (44_sequencer.md R207). -/
def scaledSnapshot (f : BulkFields) (ra : Word24) (div rsh : Word64) (freq : Bool) : Snapshot where
  v := Config.scaler.v f.v div
  i := Config.scaler.i f.i rsh
  p := Config.scaler.p f.p div rsh
  e := Config.scaler.e f.cnt div rsh
  t := Config.scaler.t f.tInt
  angle := Config.scaler.angle (angleBits ra) freq
  pf := Config.scaler.pf (angleBits ra) freq

/-- `COMMIT(fld, ra)` (44_sequencer.md R207): the fifteen registers and `SNAP_VALID` change together. -/
def commit (f : BulkFields) (ra : Word24) (s : State) : State :=
  { s with
    snap := scaledSnapshot f ra s.calDiv s.calRsh (cfgFreq s.cfg)
    raw := f
    angleRaw := ra
    snapValid := true }

/-- The value `APPLY_SETTINGS` writes when it has read the mode value `m` (44_sequencer.md R205). -/
def overlaidMode (m : Word24) (s : State) : Word24 :=
  modeWriteValue Config.modeLayout.params Config.reservedFilterCode m s.cfg

end Sys2Proof.Machine
end

