-- ==== Sys2Proof/Machine/Sequencer.lean ====
section
/-! DEFINITION. The sequencer one step at a time: the transition table of 44_sequencer.md R217 over the stack `SEQ` of
10_state.md R24 (outermost step first, so the step that runs is the last). -/

namespace Sys2Proof.Machine

/-- A transaction that is the whole command's outermost one ended well, or the one `up` (innermost first) that
encloses it takes its next step. Ends of a `READ_TXN` with the value in `t.readBack` (44_sequencer.md R202, R217):
at the outermost level it is `READ_REG`'s and goes to `RESULT` (R208). -/
def readDone (up : List SeqStep) (t : Txn) (s : State) : Option State :=
  match up with
  | [] => some (toIdle { s with result := t.readBack })
  | [.wrVerify] =>
    if t.readBack ≠ t.value then some (toIdle (fail .writeVerify s)) else some (atSteps [.wrRelock] t s)
  | [.wrVerify, .asWrite] =>
    if t.readBack ≠ t.value then some (toIdle (fail .writeVerify s))
    else some (atSteps [.asWrite, .wrRelock] t s)
  | [.asRead] => some (atSteps [.asWrite] { t with value := overlaidMode t.readBack s } s)
  | [.grAngle] => some (atSteps [.grCommit] t s)
  | _ => none

/-- A `READ_TXN` failed with kind `k`: every enclosing transaction ends (60_exceptions.md R247), and `READ_REG`'s
`RESULT` is 0 (44_sequencer.md R208). -/
def readFailed (up : List SeqStep) (k : ErrKind) (s : State) : State :=
  if up = [] then toIdle { fail k s with result := 0 } else toIdle (fail k s)

/-- The frame the running step sends, if it is a sending step (44_sequencer.md R217, column "does"). -/
def dueFrame (s : State) : Option (List Byte) :=
  match s.seq.reverse, s.txn with
  | .rdSend :: _, some t => some (encRd t.addr)
  | .wrUnlock :: _, some _ => some (encWr Config.wpAddr Config.unlockCode)
  | .wrWrite :: _, some t => some (encWr t.addr t.value)
  | .wrRelock :: _, some _ => some (encWr Config.wpAddr Config.lockCode)
  | .grSend :: _, some _ => some encBulk
  | _, _ => none

/-- The running step is one that receives (44_sequencer.md R217). -/
def receiving (s : State) : Bool :=
  match s.seq.reverse with
  | .rdRecv :: _ => true
  | .grRecv :: _ => true
  | _ => false

/-- One step of the sequencer (44_sequencer.md R217); `none` where the table has no row. -/
def seqStep (s : State) : Option State :=
  match s.seq.reverse, s.txn with
  | .rdSend :: up, some t =>
    match sendFrame (encRd t.addr) s with
    | (false, s) => some (readFailed up .writeSend s)
    | (true, s) => some (atSteps (.rdRecv :: up).reverse { t with sent := encRd t.addr } s)
  | .rdRecv :: up, some t =>
    match rxRecv Config.rdRespLen s with
    | (rs, s) =>
      match decRd (t.sent.getD 1 0) rs with
      | .bad k => some (readFailed up k s)
      | .ok v => readDone up { t with readBack := v } s
  | .wrUnlock :: up, some t =>
    match sendFrame (encWr Config.wpAddr Config.unlockCode) s with
    | (false, s) => some (toIdle (fail .writeSend s))
    | (true, s) =>
      some (atSteps (.wrWrite :: up).reverse { t with sent := encWr Config.wpAddr Config.unlockCode } s)
  | .wrWrite :: up, some t =>
    match sendFrame (encWr t.addr t.value) s with
    | (false, s) => some (toIdle (fail .writeSend s))
    | (true, s) =>
      if t.addr = Config.wpAddr then some (toIdle s)
      else some (atSteps (.wrVerify :: up).reverse { t with sent := encWr t.addr t.value } s)
  | .wrVerify :: up, some t => some (atSteps (.rdSend :: .wrVerify :: up).reverse t s)
  | .wrRelock :: _, some _ => some (toIdle (sendFrame (encWr Config.wpAddr Config.lockCode) s).2)
  | .asRead :: up, some t => some (atSteps (.rdSend :: .asRead :: up).reverse t s)
  | .asWrite :: up, some t => some (atSteps (.wrUnlock :: .asWrite :: up).reverse t s)
  | .grSend :: up, some t =>
    match sendFrame encBulk s with
    | (false, s) => some (toIdle (fail .writeSend s))
    | (true, s) => some (atSteps (.grRecv :: up).reverse { t with sent := encBulk } s)
  | .grRecv :: up, some t =>
    match rxRecv Config.bulkRespLen s with
    | (rs, s) =>
      match decBulk rs with
      | .bad k => some (toIdle (fail k s))
      | .ok f => some (atSteps (.grAngle :: up).reverse { t with fields := some f } s)
  | .grAngle :: up, some t => some (atSteps (.rdSend :: .grAngle :: up).reverse t s)
  | .grCommit :: _, some t =>
    match t.fields with
    | some f => some (toIdle (commit f t.readBack s))
    | none => none
  | _, _ => none

/-- At most `n` sequencer steps, stopping at `IDLE`; `none` where the table has no row. -/
def seqRun : Nat → State → Option State
  | 0, s => some s
  | n + 1, s =>
    if s.seq = [] then some s
    else
      match seqStep s with
      | some t => seqRun n t
      | none => none

/-- The transient values a command starts with: the address and value operands of its transaction. -/
def startTxn (a : Byte) (v : Word24) : Txn := { addr := a, value := v, sent := [], readBack := 0, fields := none }

/-- A host command accepted and `SEQ` at its first step, none of its steps run yet (44_sequencer.md R200, R208 to
R211, R217); any other instruction starts no command. -/
def beginCommand (i : Instr) (s : State) : Option State :=
  match i with
  | .readReg a => some (atSteps [.rdSend] (startTxn a 0) (acceptCommand (cmdWord opcReadReg a) s))
  | .writeReg a =>
    some (atSteps (if a = Config.wpAddr then [.wrWrite] else [.wrUnlock]) (startTxn a s.arg)
      (acceptCommand (cmdWord opcWriteReg a) s))
  | .applySettings =>
    some (atSteps [.asRead] (startTxn Config.modeAddr 0) (acceptCommand (cmdWord opcApplySettings 0) s))
  | .getReadings =>
    some (atSteps [.grSend] (startTxn Config.angleAddr 0) (acceptCommand (cmdWord opcGetReadings 0) s))
  | .rdCmd _ => none
  | .rdResp _ _ => none
  | .wrCmd _ _ _ => none
  | .bulkCmd => none
  | .bulkResp _ => none
  | .csrwCmd _ => none
  | .csrwArg _ => none
  | .csrwCfg _ => none
  | .csrwCalDiv _ => none
  | .csrwCalRsh _ => none
  | .csrwRefused _ _ => none
  | .csrr _ => none

end Sys2Proof.Machine
end

