-- ==== Sys2Proof/Machine/Frames.lean ====
section
/-! DEFINITION. The meanings of the five wire frames (opcode_table.json rows RD_CMD to BULK_RESP): a sent frame is the
sending step of the sequencer, a received frame is the arrival the receiving step takes (44_sequencer.md R217), as any
other bytes from the chip are. -/

namespace Sys2Proof.Machine

/-- One step of the sequencer as an outcome of the machine. -/
def advance (s : State) : Host.Outcome State Fault Refusal :=
  match seqStep s with
  | some t => .next t
  | none => .fault .sequencerIllegal

/-- The block emits the frame `f`. It does so exactly when the running step sends `f`, and that step runs. The running
step sends no other frame (20_memory.md R62, 30_encoding.md R79), and at `IDLE` the block sends none and writes no
`ERR` (70_reset_and_hazards.md R271, R283), so nothing happens where `f` is not due (log entry 7). -/
def emitFrame (f : List Byte) (s : State) : Host.Outcome State Fault Refusal :=
  if dueFrame s = some f then advance s else .next s

/-- The bytes `bs` arrive on the link. A receiving step takes them as the answer of its `RxRecv`; otherwise the block
parses nothing it did not ask for (30_encoding.md R77) and they stay in the receive buffer until the next flush
(41_frame_codec.md R132; log entry 8). -/
def arriveFrame (bs : List Byte) (s : State) : Host.Outcome State Fault Refusal :=
  if receiving s then advance { s with link := { s.link with arrivals := bs :: s.link.arrivals } }
  else .next { s with link := { s.link with rxBuf := s.link.rxBuf ++ bs } }

/-- `RD_CMD` (41_frame_codec.md R121). -/
def execRdCmd (a : Byte) (s : State) : Host.Outcome State Fault Refusal := emitFrame (encRd a) s

/-- `RD_RESP` (41_frame_codec.md R122). -/
def execRdResp (v : Word24) (c : Byte) (s : State) : Host.Outcome State Fault Refusal :=
  arriveFrame (rdRespBytes v c) s

/-- `WR_CMD` (41_frame_codec.md R124, R125). The block computes the checksum byte (40_checksum.md R103), so it never
emits a write frame with another one: such a pattern names no event of the block, and nothing happens (log
entry 9). -/
def execWrCmd (a : Byte) (v : Word24) (c : Byte) (s : State) : Host.Outcome State Fault Refusal :=
  if wrBytes a v c = encWr a v then emitFrame (encWr a v) s else .next s

/-- `BULK_CMD` (41_frame_codec.md R127). -/
def execBulkCmd (s : State) : Host.Outcome State Fault Refusal := emitFrame encBulk s

/-- `BULK_RESP` (41_frame_codec.md R129). -/
def execBulkResp (f : BulkFrame) (s : State) : Host.Outcome State Fault Refusal :=
  arriveFrame (bulkRespBytes f) s

end Sys2Proof.Machine
end

