-- ==== Sys2Proof/Machine/Transactions.lean ====
section
/-! DEFINITION. The internal transactions (44_sequencer.md R202 to R206) as the spec's pseudocode writes them, each over
the transport's answers. A transaction that fails has written `ERR`. -/

namespace Sys2Proof.Machine

/-- `READ_TXN(a)` (44_sequencer.md R202): the decoded value, or `none` after a failure. -/
def readTxn (a : Byte) (s : State) : Option Word24 × State :=
  match sendFrame (encRd a) s with
  | (false, s) => (none, fail .writeSend s)
  | (true, s) =>
    match rxRecv Config.rdRespLen s with
    | (rs, s) =>
      match decRd a rs with
      | .bad k => (none, fail k s)
      | .ok v => (some v, s)

/-- The steps of `WRITE_TXN(a, v)` after the write frame for a register that is not the write-protect register:
read-back, compare, relock (44_sequencer.md R203). -/
def verifyTxn (a : Byte) (v : Word24) (s : State) : Bool × State :=
  match readTxn a s with
  | (none, s) => (false, s)
  | (some rb, s) =>
    if rb ≠ v then (false, fail .writeVerify s)
    else (true, (sendFrame (encWr Config.wpAddr Config.lockCode) s).2)

/-- `WRITE_TXN(a, v)` from its write frame on (44_sequencer.md R203, states `WR_WRITE` to `WR_RELOCK`). -/
def writeTail (a : Byte) (v : Word24) (s : State) : Bool × State :=
  match sendFrame (encWr a v) s with
  | (false, s) => (false, fail .writeSend s)
  | (true, s) => if a = Config.wpAddr then (true, s) else verifyTxn a v s

/-- `WRITE_TXN(a, v)` (44_sequencer.md R203): unlock unless `a` is the write-protect register, write, verify,
relock. -/
def writeTxn (a : Byte) (v : Word24) (s : State) : Bool × State :=
  if a = Config.wpAddr then writeTail a v s
  else
    match sendFrame (encWr Config.wpAddr Config.unlockCode) s with
    | (false, s) => (false, fail .writeSend s)
    | (true, s) => writeTail a v s

/-- `APPLY_TXN()` (44_sequencer.md R205). -/
def applyTxn (s : State) : Bool × State :=
  match readTxn Config.modeAddr s with
  | (none, s) => (false, s)
  | (some m, s) => writeTxn Config.modeAddr (overlaidMode m s) s

/-- `GET_TXN()` (44_sequencer.md R206): bulk read, angle read, commit. -/
def getTxn (s : State) : Bool × State :=
  match sendFrame encBulk s with
  | (false, s) => (false, fail .writeSend s)
  | (true, s) =>
    match rxRecv Config.bulkRespLen s with
    | (rs, s) =>
      match decBulk rs with
      | .bad k => (false, fail k s)
      | .ok f =>
        match readTxn Config.angleAddr s with
        | (none, s) => (false, s)
        | (some ra, s) => (true, commit f ra s)

end Sys2Proof.Machine
end

