-- ==== Sys2Proof/Machine/HostCommands.lean ====
section
/-! DEFINITION. The four host commands (44_sequencer.md R208 to R211), each run to completion (20_memory.md R61). -/

namespace Sys2Proof.Machine

/-- `HC_READ_REG(a)` after its acceptance (44_sequencer.md R208): `RESULT` is the value read, 0 on failure. -/
def hcReadReg (a : Byte) (s : State) : State :=
  toIdle { (readTxn a s).2 with result := (readTxn a s).1.getD 0 }

/-- `HC_WRITE_REG(a)` after its acceptance (44_sequencer.md R209). -/
def hcWriteReg (a : Byte) (s : State) : State := toIdle (writeTxn a s.arg s).2

/-- `HC_APPLY_SETTINGS()` after its acceptance (44_sequencer.md R210). -/
def hcApplySettings (s : State) : State := toIdle (applyTxn s).2

/-- `HC_GET_READINGS()` after its acceptance (44_sequencer.md R211). -/
def hcGetReadings (s : State) : State := toIdle (getTxn s).2

/-- `READ_REG a`: the host writes its command word (30_encoding.md R81), which is accepted and run. -/
def execReadReg (a : Byte) (s : State) : Host.Outcome State Fault Refusal :=
  .next (hcReadReg a (acceptCommand (cmdWord opcReadReg a) s))

/-- `WRITE_REG a`. -/
def execWriteReg (a : Byte) (s : State) : Host.Outcome State Fault Refusal :=
  .next (hcWriteReg a (acceptCommand (cmdWord opcWriteReg a) s))

/-- `APPLY_SETTINGS`. -/
def execApplySettings (s : State) : Host.Outcome State Fault Refusal :=
  .next (hcApplySettings (acceptCommand (cmdWord opcApplySettings 0) s))

/-- `GET_READINGS`. -/
def execGetReadings (s : State) : Host.Outcome State Fault Refusal :=
  .next (hcGetReadings (acceptCommand (cmdWord opcGetReadings 0) s))

end Sys2Proof.Machine
end

