-- ==== Sys2Proof/Machine/HostAccess.lean ====
section
/-! DEFINITION. The host's CSR accesses (44_sequencer.md R200, R212 to R216). -/

namespace Sys2Proof.Machine

/-- `HostWrite(CMD, w)` (44_sequencer.md R200). -/
def hostWriteCmd (w : Word64) (s : State) : State :=
  if illegalCmd w then refuseWrite s
  else if cmdOpc w = opcReadReg then hcReadReg (cmdAddr w) (acceptCommand w s)
  else if cmdOpc w = opcWriteReg then hcWriteReg (cmdAddr w) (acceptCommand w s)
  else if cmdOpc w = opcApplySettings then hcApplySettings (acceptCommand w s)
  else hcGetReadings (acceptCommand w s)

/-- `CSRW_CMD` (44_sequencer.md R200). -/
def execCsrwCmd (w : Word64) (s : State) : Host.Outcome State Fault Refusal := .next (hostWriteCmd w s)

/-- `CSRW_ARG` (44_sequencer.md R212): bits 63:24 are ignored. -/
def execCsrwArg (w : Word64) (s : State) : Host.Outcome State Fault Refusal :=
  .next { accepted s with arg := w.extractLsb' 0 24 }

/-- `CSRW_CFG` (44_sequencer.md R213): refused as a whole for a filter code 3, else bits 63:6 are ignored. -/
def execCsrwCfg (w : Word64) (s : State) : Host.Outcome State Fault Refusal :=
  if cfgLegal (w.extractLsb' 0 6) then .next { accepted s with cfg := w.extractLsb' 0 6 } else .next (refuseWrite s)

/-- `CSRW_CAL_DIV` (44_sequencer.md R214). -/
def execCsrwCalDiv (w : Word64) (s : State) : Host.Outcome State Fault Refusal :=
  if calLegal w then .next { accepted s with calDiv := w } else .next (refuseWrite s)

/-- `CSRW_CAL_RSH` (44_sequencer.md R214). -/
def execCsrwCalRsh (w : Word64) (s : State) : Host.Outcome State Fault Refusal :=
  if calLegal w then .next { accepted s with calRsh := w } else .next (refuseWrite s)

/-- `CSRW_REFUSED` (44_sequencer.md R215): whatever the index and the data word, the write is refused. -/
def execCsrwRefused (_idx : Byte) (_w : Word64) (s : State) : Host.Outcome State Fault Refusal :=
  .next (refuseWrite s)

/-- `CSRR` (44_sequencer.md R216): the slot goes to the host; no register changes. -/
def execCsrr (idx : Byte) (s : State) : Host.Outcome State Fault Refusal :=
  .next { s with replies := s.replies ++ [csrRead idx s] }

end Sys2Proof.Machine
end

