-- ==== Sys2Proof/Machine/Dispatch.lean ====
section
/-! DEFINITION. One arm per instruction. -/

namespace Sys2Proof.Machine

def exec (i : Instr) (s : State) : Host.Outcome State Fault Refusal :=
  match i with
  | .rdCmd a => Sys2Proof.Machine.execRdCmd a s
  | .rdResp v c => Sys2Proof.Machine.execRdResp v c s
  | .wrCmd a v c => Sys2Proof.Machine.execWrCmd a v c s
  | .bulkCmd => Sys2Proof.Machine.execBulkCmd s
  | .bulkResp f => Sys2Proof.Machine.execBulkResp f s
  | .readReg a => Sys2Proof.Machine.execReadReg a s
  | .writeReg a => Sys2Proof.Machine.execWriteReg a s
  | .applySettings => Sys2Proof.Machine.execApplySettings s
  | .getReadings => Sys2Proof.Machine.execGetReadings s
  | .csrwCmd w => Sys2Proof.Machine.execCsrwCmd w s
  | .csrwArg w => Sys2Proof.Machine.execCsrwArg w s
  | .csrwCfg w => Sys2Proof.Machine.execCsrwCfg w s
  | .csrwCalDiv w => Sys2Proof.Machine.execCsrwCalDiv w s
  | .csrwCalRsh w => Sys2Proof.Machine.execCsrwCalRsh w s
  | .csrwRefused idx w => Sys2Proof.Machine.execCsrwRefused idx w s
  | .csrr idx => Sys2Proof.Machine.execCsrr idx s

end Sys2Proof.Machine
end

