-- ==== Sys2Proof/Machine/Ports.lean ====
section
/-! DEFINITION. How the machine takes its next input: the fetch of the block (it has no program counter, 10_state.md
R25; its next instruction is the next thing the environment does at a port). -/

namespace Sys2Proof.Machine

/-- The event is a host access, which waits until the command before it has finished (20_memory.md R61). -/
def isHostAccess : PortEvent → Bool
  | .hostWrite _ _ => true
  | .hostRead _ => true
  | .frame _ => false

/-- The bytes a port event brings on the link. -/
def linkBytes : PortEvent → List Byte
  | .hostWrite _ _ => []
  | .hostRead _ => []
  | .frame bs => bs

/-- The decoded instruction runs. Bytes that are no frame are bytes from the chip, which sends any (30_encoding.md R79):
they arrive on the link (log entry 9). -/
def runEvent (e : PortEvent) (s : State) : Host.Outcome State Fault Refusal :=
  match decode e with
  | .ok i => exec i s
  | .error _ => arriveFrame (linkBytes e) s

/-- The same, a host command only as far as the acceptance of its word (44_sequencer.md R217). -/
def beginEvent (e : PortEvent) (s : State) : Host.Outcome State Fault Refusal :=
  match decode e with
  | .ok i =>
    match beginCommand i s with
    | some t => .next t
    | none => exec i s
  | .error _ => arriveFrame (linkBytes e) s

/-- The next input with the inputs after it, when it is taken now; `none` when it waits for the running command. -/
def takenInput (s : State) : Option (Input × List Input) :=
  match s.inputs with
  | [] => none
  | .event e :: rest => if s.seq = [] ∨ isHostAccess e = false then some (.event e, rest) else none
  | .stepwise e :: rest => if s.seq = [] ∨ isHostAccess e = false then some (.stepwise e, rest) else none
  | .arrive bs :: rest => some (.arrive bs, rest)
  | .reset n :: rest => if s.seq = [] ∨ n = 0 then some (.reset n, rest) else none

/-- A reset that is `n + 1` steps away is one step nearer. -/
def tick : List Input → List Input
  | .reset (n + 1) :: rest => .reset n :: rest
  | ins => ins

/-- An input that is taken. -/
def runInput (inp : Input) (s : State) : Host.Outcome State Fault Refusal :=
  match inp with
  | .event e => runEvent e s
  | .stepwise e => beginEvent e s
  | .arrive bs => arriveFrame bs s
  | .reset _ => .next (resetBlock s)

/-- One step: the next input if it is taken now; else one step of the running command; else the block waits at `IDLE`
and holds its CSRs (60_exceptions.md R255). -/
def portStep (s : State) : Host.Outcome State Fault Refusal :=
  match takenInput s with
  | some (inp, rest) => runInput inp { s with inputs := rest }
  | none => if s.seq = [] then .next s else advance { s with inputs := tick s.inputs }

/-- The state with the port event `e` as what the environment does next, taken by the very next step: a host access
needs `SEQ` at `IDLE`. -/
def withEvent (e : PortEvent) (s : State) : State :=
  if isHostAccess e then { toIdle s with inputs := .event e :: s.inputs } else { s with inputs := .event e :: s.inputs }

end Sys2Proof.Machine
end

