-- ==== Sys2Proof/Machine/Step.lean ====
section
/-! DEFINITION. The step of the machine, and the placing of an instruction where the step takes it. -/

namespace Sys2Proof.Machine

/-- One step of the machine. -/
def step (s : State) : Host.Outcome State Fault Refusal := portStep s

/-- `s` with the opcode-table word `w` of `nbits` bits as the next thing at the block's ports (log entries 4, 6); `s`
itself for a width no row has. -/
def State.withFetchWord (s : State) (nbits w : Nat) : State :=
  match tableEvent nbits w with
  | some e => withEvent e s
  | none => s

end Sys2Proof.Machine
end

