-- ==== Sys2Proof/Machine/Reference.lean ====
section
/-! DEFINITION. The binary64 reference datapath of 43_scaler.md R172: each formula evaluated left to right, every
operation rounded to nearest, ties to even. It is the spec's test aid, one conforming evaluation among others; the
machine does not call it (its scaler is `Config.scaler`, any conforming one). -/

namespace Sys2Proof.Machine

/-- `fl(a × b)` (00_scope.md R10). -/
def flMul (a b : Word64) : Word64 := f64Round (f64Val a * f64Val b)
/-- `fl(a / b)` (00_scope.md R10). -/
def flDiv (a b : Word64) : Word64 := f64Round (f64Val a / f64Val b)
/-- `fl(a - b)` (00_scope.md R10). -/
def flSub (a b : Word64) : Word64 := f64Round (f64Val a - f64Val b)

/-- `kv = fl(1.218 / 79931 / 1000)` (43_scaler.md R172). -/
def kv64 : Word64 := flDiv (flDiv (f64Round Config.vref) (f64Round Config.kvDen)) (f64Round 1000)
/-- `ki = fl(1.218 / 324004 / 1000)` (43_scaler.md R172). -/
def ki64 : Word64 := flDiv (flDiv (f64Round Config.vref) (f64Round Config.kiDen)) (f64Round 1000)
/-- `kp = fl(1.218 × 1.218 / 4046 / 1e6)` (43_scaler.md R172). -/
def kp64 : Word64 :=
  flDiv (flDiv (flMul (f64Round Config.vref) (f64Round Config.vref)) (f64Round Config.kpDen)) (f64Round 1000000)
/-- `ke = fl(kp × 1638.4 × 256 / 3600000)` (43_scaler.md R172). -/
def ke64 : Word64 :=
  flDiv (flMul (flMul kp64 (f64Round (16384 / 10))) (f64Round 256)) (f64Round Config.eDen)
/-- `ta = fl(170 / 448)` (43_scaler.md R172). -/
def ta64 : Word64 := flDiv (f64Round 170) (f64Round 448)

/-- `fl(raw × kv × div)` (43_scaler.md R173). -/
def refV (raw : Word24) (div : Word64) : Word64 := flMul (flMul (f64Round raw.toNat) kv64) div
/-- `fl(raw × ki / rsh)` (43_scaler.md R174). -/
def refI (raw : Word24) (rsh : Word64) : Word64 := flDiv (flMul (f64Round raw.toNat) ki64) rsh
/-- `fl(raw × kp × div / rsh)` (43_scaler.md R175). -/
def refP (raw : Word24) (div rsh : Word64) : Word64 := flDiv (flMul (flMul (f64Round raw.toNat) kp64) div) rsh
/-- `fl(cnt × ke × div / rsh)` (43_scaler.md R176). -/
def refE (cnt : Word24) (div rsh : Word64) : Word64 := flDiv (flMul (flMul (f64Round cnt.toNat) ke64) div) rsh
/-- `fl(ta × (raw / 2 - 32) - 45)` (43_scaler.md R178). -/
def refT (raw : Word24) : Word64 :=
  flSub (flMul ta64 (flSub (flDiv (f64Round raw.toNat) (f64Round 2)) (f64Round 32))) (f64Round 45)
/-- `fl(a × f / 1000000)` (43_scaler.md R179). -/
def refFrac (a : BitVec 16) (freq : Bool) : Word64 :=
  flDiv (flMul (f64Round a.toNat) (f64Round (lineFreq freq))) (f64Round Config.fsAngle)
/-- `fl(frac × 360)` on the reference `frac` (43_scaler.md R180). -/
def refAngle (a : BitVec 16) (freq : Bool) : Word64 := flMul (refFrac a freq) (f64Round 360)

/-- `π_64`, the binary64 value nearest π (43_scaler.md R181). -/
def pi64 : Word64 := 0x400921FB54442D18

/-- The terms of the cosine series from index `k` on, for the argument `x / 2^256`: `term` is the magnitude of the
current term and `acc` the sum so far, both times `2^256`. -/
def cosTerms (x : Nat) : Nat → Nat → Nat → Int → Int
  | 0, _, _, acc => acc
  | fuel + 1, k, term, acc =>
    let next := term * x * x / 2 ^ 512 / ((2 * k + 1) * (2 * k + 2))
    cosTerms x fuel (k + 1) next (if k % 2 = 0 then acc - next else acc + next)

/-- The cosine of a non-negative rational below 32, to about 200 binary places (100 terms of its series). -/
def cosApprox (x : ℚ) : ℚ :=
  let n := (x.num.natAbs * 2 ^ 256) / x.den
  (cosTerms n 100 0 (2 ^ 256) (2 ^ 256) : ℚ) / (2 ^ 256 : Nat)

/-- `fl(cos(fl(2 × π_64 × frac)))` (43_scaler.md R181). -/
def refPf (a : BitVec 16) (freq : Bool) : Word64 :=
  f64Round (cosApprox (f64Val (flMul (flMul (f64Round 2) pi64) (refFrac a freq))))

end Sys2Proof.Machine
end

