-- ==== Sys2Proof/Safety.lean ====
section
/-! DEFINITION. What the statements speak of: the properties every step keeps, and the frames and transcripts the
statements name. -/

namespace Sys2Proof.Machine

/-- The registers hold only legal values: `CMD` is 0 or an accepted word (10_state.md R26), `CFG` is always one of the
enumerated variants (R32), the calibration registers are finite and positive (R35). -/
def State.registersLegal (s : State) : Prop :=
  (s.cmd = 0 ∨ illegalCmd s.cmd = false) ∧ cfgLegal s.cfg = true ∧ calLegal s.calDiv = true ∧ calLegal s.calRsh = true

/-- The snapshot invariant (10_state.md R38): before the first success every snapshot and raw register holds its reset
value; after it all fifteen belong to one bulk response and one angle read, with one legal calibration and line
frequency. -/
def State.snapshotCoherent (s : State) : Prop :=
  (s.snapValid = false ∧ s.snap = zeroSnapshot ∧ s.raw = zeroFields ∧ s.angleRaw = 0) ∨
    (s.snapValid = true ∧ ∃ div rsh freq, calLegal div = true ∧ calLegal rsh = true ∧
      s.snap = scaledSnapshot s.raw s.angleRaw div rsh freq)

/-- The stacks `SEQ` can hold, outermost step first (10_state.md R24, 44_sequencer.md R217). -/
def legalStacks : List (List SeqStep) :=
  [[.rdSend], [.rdRecv],
   [.wrUnlock], [.wrWrite], [.wrVerify], [.wrVerify, .rdSend], [.wrVerify, .rdRecv], [.wrRelock],
   [.asRead], [.asRead, .rdSend], [.asRead, .rdRecv],
   [.asWrite], [.asWrite, .wrUnlock], [.asWrite, .wrWrite], [.asWrite, .wrVerify],
   [.asWrite, .wrVerify, .rdSend], [.asWrite, .wrVerify, .rdRecv], [.asWrite, .wrRelock],
   [.grSend], [.grRecv], [.grAngle], [.grAngle, .rdSend], [.grAngle, .rdRecv], [.grCommit]]

/-- The opcode of the host command whose transaction starts with a step (44_sequencer.md R208 to R211). -/
def stepOpc : SeqStep → Byte
  | .rdSend => opcReadReg
  | .rdRecv => opcReadReg
  | .wrUnlock => opcWriteReg
  | .wrWrite => opcWriteReg
  | .wrVerify => opcWriteReg
  | .wrRelock => opcWriteReg
  | .asRead => opcApplySettings
  | .asWrite => opcApplySettings
  | .grSend => opcGetReadings
  | .grRecv => opcGetReadings
  | .grAngle => opcGetReadings
  | .grCommit => opcGetReadings

/-- The transient values fit the stack: the address is the one the command works on, a receiving step waits for the
answer to the read command sent, and the bulk fields are there once decoded. -/
def txnFits (outer : SeqStep) (st : List SeqStep) (t : Txn) : Prop :=
  (st.getLast? = some .rdRecv → t.sent = encRd t.addr) ∧
  (st.getLast? = some .grRecv → t.sent = encBulk) ∧
  (outer = .asRead ∨ outer = .asWrite → t.addr = Config.modeAddr) ∧
  (stepOpc outer = opcGetReadings → t.addr = Config.angleAddr) ∧
  (outer = .wrUnlock ∨ outer = .wrVerify ∨ outer = .wrRelock → t.addr ≠ Config.wpAddr) ∧
  (outer = .grAngle ∨ outer = .grCommit → t.fields ≠ none)

/-- `SEQ` is `IDLE` with no transient values, or at a stack the transition table has a row for, running the command
`CMD` names (10_state.md R24, R26; 44_sequencer.md R217). -/
def State.seqLegal (s : State) : Prop :=
  match s.txn with
  | none => s.seq = []
  | some t =>
    s.seq ∈ legalStacks ∧ ∃ outer, s.seq.head? = some outer ∧ cmdOpc s.cmd = stepOpc outer ∧ txnFits outer s.seq t

/-- The bytes are one of the three frame kinds the block sends (30_encoding.md R79). -/
def isCommandFrame (f : List Byte) : Bool :=
  match decodeFrame f with
  | .ok (.rdCmd _) => true
  | .ok .bulkCmd => true
  | .ok (.wrCmd a v c) => (Instr.wrCmd a v c).wellFormed
  | _ => false

/-- A transport call may follow another: a send comes right after a flush (44_sequencer.md R204), a receive right after
a successful send of the command it answers, 4 bytes for a read command and 35 for the bulk command (20_memory.md R62,
30_encoding.md R77), and it returns at most the bytes asked for within 500 ms (00_scope.md R13). -/
def callFollows (prev : Option Call) (next : Call) : Bool :=
  match next with
  | .flush => true
  | .send f _ => prev == some .flush && isCommandFrame f
  | .recv n ms bs =>
    match prev with
    | some (.send f true) =>
      ms == Config.rxTimeoutMs && decide (bs.length ≤ n) &&
        ((n == Config.rdRespLen && f == encRd (f.getD 1 0)) || (n == Config.bulkRespLen && f == encBulk))
    | _ => false

/-- Every call of a transcript may follow the one before it. -/
def callsOrdered : Option Call → List Call → Bool
  | _, [] => true
  | prev, c :: cs => callFollows prev c && callsOrdered (some c) cs

/-- The transcript of the link is ordered, and a receiving step comes right after the send it answers. -/
def State.linkLegal (s : State) : Prop :=
  callsOrdered none s.link.log = true ∧
    (receiving s = true → s.link.log.getLast? = s.txn.map fun t => Call.send t.sent true)

/-- The triple of 41_frame_codec.md R122: success, error kind, and the value, 0 on failure. -/
def Checked.triple (c : Checked Word24) : Bool × ErrKind × Word24 :=
  match c with
  | .ok v => (true, .none, v)
  | .bad k => (false, k, 0)

/-- The unlock frame (44_sequencer.md R203). -/
def unlockFrame : List Byte := [0xA8, 0x1A, 0x55, 0x00, 0x00, 0xE8]

/-- The lock frame (44_sequencer.md R203). -/
def lockFrame : List Byte := [0xA8, 0x1A, 0x00, 0x00, 0x00, 0x3D]

/-- The valid response to a read of address `a` that carries `v` (40_checksum.md R104). -/
def readResponse (a : Byte) (v : Word24) : List Byte := enc24 v ++ [cksum ([0x58, a] ++ enc24 v)]

/-- A bulk frame's checksum byte is the one 40_checksum.md R105 asks for. -/
def bulkChecksumOk (f : BulkFrame) : Prop := f.cksum = cksum ([0x58] ++ (bulkRespBytes f).take 34)

/-- The seven fields of a bulk frame that are decoded (41_frame_codec.md R129). -/
def fieldsOf (f : BulkFrame) : BulkFields :=
  { iFast := f.iFast, i := f.i, v := f.v, p := f.p, cnt := f.cnt, tInt := f.tInt, tExt := f.tExt }

/-- The state after an accepted host command with word `w` that left the error kind `k` and the link `l` and wrote
nothing else. -/
def State.commandDone (s : State) (w : Word64) (k : ErrKind) (l : Link) : State :=
  { s with cmd := w, ill := false, err := k, seq := [], txn := none, link := l }

/-- The link after the calls `calls`, with nothing left in the receive buffer and the scripts `as` and `ar` left. -/
def Link.after (l : Link) (as : List Bool) (ar : List (List Byte)) (calls : List Call) : Link :=
  { rxBuf := [], sendAnswers := as, arrivals := ar, log := l.log ++ calls }

end Sys2Proof.Machine
end

