-- ==== Sys2Proof/Certificates/Slice0/Obligations.lean ====
section
/-! DEFINITION. The statements for the provers. Rule numbers R<n> are the spec's; "log entry n" is
notes/assumptions/n.md. -/

open Sys2Proof Sys2Proof.Machine

/-! ## Checksum and frame codec -/

/-- 40_checksum.md R100: the checksum is 0xFF minus the sum mod 256, with the corner cases and the example of the
rule; (R101) only the sum mod 256 of each part matters. -/
def Obligations.ChecksumIsComplementOfLowByte : Prop :=
  (∀ bs : List Byte, (cksum bs).toNat = 255 - byteSum bs % 256) ∧
  (∀ xs ys zs : List Byte, byteSum ys % 256 = byteSum zs % 256 → cksum (xs ++ ys) = cksum (xs ++ zs)) ∧
  cksum [] = 0xFF ∧
  (∀ bs : List Byte, byteSum bs % 256 = 0 → cksum bs = 0xFF) ∧
  (∀ bs : List Byte, byteSum bs % 256 = 255 → cksum bs = 0x00) ∧
  cksum [0xA8, 0x1A, 0x55, 0x00, 0x00] = 0xE8

/-- The checksum-closure property the spec derives as R106. -/
def Obligations.ChecksumClosure : Prop :=
  (∀ bs : List Byte, (byteSum bs + (cksum bs).toNat) % 256 = 255) ∧
  (∀ f : List Byte, f.length = 6 → f.getD 0 0 = 0xA8 → ((∃ a v, f = encWr a v) ↔ byteSum f % 256 = 255)) ∧
  (∀ (a : Byte) (r : List Byte), r.length = 4 →
    ((∃ v, decRd a r = .ok v) ↔ (0x58 + a.toNat + byteSum r) % 256 = 255)) ∧
  (∀ r : List Byte, r.length = 35 → ((∃ f, decBulk r = .ok f) ↔ (0x58 + byteSum r) % 256 = 255))

/-- 40_checksum.md section 1, R102: the check passes for exactly one byte. That every change of one covered byte is
detected, and that two changes whose differences sum to 0 are not, is what the spec derives there from R100. -/
def Obligations.ChecksumCheckDetectsSingleByteChange : Prop :=
  (∀ (bs : List Byte) (c : Byte), ckchk bs c = true ↔ c = cksum bs) ∧
  (∀ (xs ys : List Byte) (b b' c : Byte), b ≠ b' → ckchk (xs ++ b :: ys) c = true → ckchk (xs ++ b' :: ys) c = false) ∧
  (∀ (xs ys zs : List Byte) (b b' d c : Byte),
    ckchk (xs ++ (b + d) :: (ys ++ (b' - d) :: zs)) c = ckchk (xs ++ b :: (ys ++ b' :: zs)) c) ∧
  ckchk [0x58, 0x18, 0x56, 0x34, 0x12] 0xF3 = true ∧ ckchk [0x58, 0x18, 0x56, 0x34, 0x12] 0xF2 = false

/-- 41_frame_codec.md R120: the two directions are inverse, and decoding is little-endian and unsigned. -/
def Obligations.Word24CodecRoundTrip : Prop :=
  (∀ v : Word24, dec24 (enc24 v) = v) ∧
  (∀ b0 b1 b2 : Byte, enc24 (dec24 [b0, b1, b2]) = [b0, b1, b2]) ∧
  (∀ b0 b1 b2 : Byte, (dec24 [b0, b1, b2]).toNat = b0.toNat + 256 * b1.toNat + 65536 * b2.toNat) ∧
  (∀ v : Word24, (enc24 v).map BitVec.toNat = [v.toNat % 256, v.toNat / 256 % 256, v.toNat / 65536])

/-- 41_frame_codec.md R122: the triple `DEC_RD` answers for every list of at most 4 bytes, length before checksum, the
value 0 on failure. -/
def Obligations.ReadResponseCheck : Prop :=
  (∀ (a : Byte) (rs : List Byte), rs.length < 4 → (decRd a rs).triple = (false, .readLength, 0)) ∧
  (∀ a b0 b1 b2 b3 : Byte, b3 ≠ cksum [0x58, a, b0, b1, b2] →
    (decRd a [b0, b1, b2, b3]).triple = (false, .readChecksum, 0)) ∧
  (∀ a b0 b1 b2 : Byte,
    (decRd a [b0, b1, b2, cksum [0x58, a, b0, b1, b2]]).triple = (true, .none, dec24 [b0, b1, b2]))

/-- 41_frame_codec.md R124 with its corner cases: a write frame is the header, the address, the value and the checksum
over these 5 bytes. -/
def Obligations.WriteFrameLayout : Prop :=
  (∀ (a : Byte) (v : Word24),
    encWr a v = [0xA8, a, v.extractLsb' 0 8, v.extractLsb' 8 8, v.extractLsb' 16 8,
      cksum [0xA8, a, v.extractLsb' 0 8, v.extractLsb' 8 8, v.extractLsb' 16 8]]) ∧
  encWr 0x1A 0x55 = unlockFrame ∧ encWr 0x1A 0x00 = lockFrame ∧
  encWr 0x18 0x000000 = [0xA8, 0x18, 0x00, 0x00, 0x00, 0x3F] ∧
  encWr 0x18 0x123456 = [0xA8, 0x18, 0x56, 0x34, 0x12, 0xA3]

/-- 41_frame_codec.md R129, with 40_checksum.md R105 and R131: a short response is `ReadLength`, a wrong checksum
`ReadChecksum`, and otherwise the seven fields come from their offsets whatever the header and the unnamed bytes
hold. -/
def Obligations.BulkResponseCheck : Prop :=
  ∀ rs : List Byte,
    (rs.length < 35 → decBulk rs = .bad .readLength) ∧
    (rs.length = 35 → rs.getD 34 0 ≠ cksum ([0x58] ++ rs.take 34) → decBulk rs = .bad .readChecksum) ∧
    (rs.length = 35 → rs.getD 34 0 = cksum ([0x58] ++ rs.take 34) → decBulk rs = .ok
      { iFast := dec24 [rs.getD 1 0, rs.getD 2 0, rs.getD 3 0], i := dec24 [rs.getD 4 0, rs.getD 5 0, rs.getD 6 0]
        v := dec24 [rs.getD 10 0, rs.getD 11 0, rs.getD 12 0], p := dec24 [rs.getD 16 0, rs.getD 17 0, rs.getD 18 0]
        cnt := dec24 [rs.getD 22 0, rs.getD 23 0, rs.getD 24 0], tInt := dec24 [rs.getD 28 0, rs.getD 29 0, rs.getD 30 0]
        tExt := dec24 [rs.getD 31 0, rs.getD 32 0, rs.getD 33 0] })

/-- 30_encoding.md R80, 41_frame_codec.md R121, R127: a read command has the bytes of the bulk command exactly for
address 0xAA. -/
def Obligations.ReadCommandCollidesOnlyAtAA : Prop :=
  (∀ a : Byte, encRd a = [0x58, a]) ∧ encBulk = [0x58, 0xAA] ∧ (∀ a : Byte, encRd a = encBulk ↔ a = 0xAA)

/-! ## Packer and mode register -/

/-- The corner cases of `PACK` the spec derives as R152, and the packer properties it derives as R153 (a) to (d),
over every operand. -/
def Obligations.PackerProperties : Prop :=
  (∀ (r val : Word32) (off w : Nat), w = 0 ∨ 32 ≤ off → pack r off w val = r) ∧
  (∀ (r val : Word32) (w : Nat), 32 ≤ w → pack r 0 w val = val) ∧
  (∀ (r val : Word32) (off w : Nat), off < 32 → 32 < off + w → pack r off w val = pack r off (32 - off) val) ∧
  (∀ (r val : Word32) (off w i : Nat), i < off ∨ off + effw off w ≤ i →
    (pack r off w val).getLsbD i = r.getLsbD i) ∧
  (∀ (r val : Word32) (off w : Nat), (field (pack r off w val) off w).toNat = val.toNat % 2 ^ effw off w) ∧
  (∀ (r val : Word32) (off w : Nat), pack (pack r off w val) off w val = pack r off w val) ∧
  (∀ (r v1 v2 : Word32) (o1 w1 o2 w2 : Nat),
    (∀ i, ¬ (o1 ≤ i ∧ i < o1 + effw o1 w1 ∧ o2 ≤ i ∧ i < o2 + effw o2 w2)) →
    pack (pack r o1 w1 v1) o2 w2 v2 = pack (pack r o2 w2 v2) o1 w1 v1)

/-- 42_bitfield_packer.md R157 under the constraints of R156: the overlay sets the two filter fields to the chip codes
of AC (0), DC (1) and ALL (2), the averaging field to that of 400 ms or 800 ms by bit 4 of the configuration and the
frequency field to that of 50 Hz or 60 Hz by bit 5, and keeps every other bit. R158: for a 24-bit register the value
written back is the whole result, since it stays below 2^24. -/
def Obligations.ModeOverlaySetsFourFields : Prop :=
  ∀ (p : ModeParams) (res : BitVec 2) (m : Word32) (cfg : BitVec 6), p.legal = true →
    (cfg.toNat % 4 = 0 → field (modeOverlay p res m cfg) p.iFiltOff 2 = p.encFiltAc.zeroExtend 32) ∧
    (cfg.toNat % 4 = 1 → field (modeOverlay p res m cfg) p.iFiltOff 2 = p.encFiltDc.zeroExtend 32) ∧
    (cfg.toNat % 4 = 2 → field (modeOverlay p res m cfg) p.iFiltOff 2 = p.encFiltAll.zeroExtend 32) ∧
    (cfg.toNat / 4 % 4 = 0 → field (modeOverlay p res m cfg) p.vFiltOff 2 = p.encFiltAc.zeroExtend 32) ∧
    (cfg.toNat / 4 % 4 = 1 → field (modeOverlay p res m cfg) p.vFiltOff 2 = p.encFiltDc.zeroExtend 32) ∧
    (cfg.toNat / 4 % 4 = 2 → field (modeOverlay p res m cfg) p.vFiltOff 2 = p.encFiltAll.zeroExtend 32) ∧
    field (modeOverlay p res m cfg) p.avgOff 1 =
      (if cfg.getLsbD 4 then p.encAvg800 else p.encAvg400).zeroExtend 32 ∧
    field (modeOverlay p res m cfg) p.freqOff 1 =
      (if cfg.getLsbD 5 then p.encFreq60 else p.encFreq50).zeroExtend 32 ∧
    (∀ i, (i < p.iFiltOff ∨ p.iFiltOff + 2 ≤ i) → (i < p.vFiltOff ∨ p.vFiltOff + 2 ≤ i) → i ≠ p.avgOff →
      i ≠ p.freqOff → (modeOverlay p res m cfg).getLsbD i = m.getLsbD i) ∧
    (m.toNat < 2 ^ 24 → (modeOverlay p res m cfg).toNat < 2 ^ 24) ∧
    (∀ m24 : Word24,
      (modeWriteValue p res m24 cfg).zeroExtend 32 = modeOverlay p res (m24.zeroExtend 32) cfg)

/-! ## Scaler -/

/-- 43_scaler.md R171: the exact values of the calibration constants. -/
def Obligations.CalibrationConstants : Prop :=
  kv = 609 / 39965500000 ∧ ki = 609 / 162002000000 ∧ kp = 52983 / 144500000000000 ∧
  ke = 47096 / 1102447509765625 ∧ Config.fsAngle = 1000000

/-- The ranges of the exact values the spec derives as R183; its bound 3183119.810267857... of the temperature is
1426037675/448, the value for the largest field. -/
def Obligations.ScalerRanges : Prop :=
  (∀ (raw : Word24) (div rsh : Word64), calLegal div = true → calLegal rsh = true →
    (0 ≤ scaleVExact raw div ∧ scaleVExact raw div ≤ 16777215 * kv * f64Val div) ∧
    (0 ≤ scaleIExact raw rsh ∧ scaleIExact raw rsh ≤ 16777215 * ki / f64Val rsh) ∧
    (0 ≤ scalePExact raw div rsh ∧ scalePExact raw div rsh ≤ 16777215 * kp * f64Val div / f64Val rsh) ∧
    (0 ≤ scaleEExact raw div rsh ∧ scaleEExact raw div rsh ≤ 16777215 * ke * f64Val div / f64Val rsh)) ∧
  (∀ raw : Word24, -(400 / 7) ≤ scaleTExact raw ∧ scaleTExact raw ≤ 1426037675 / 448) ∧
  (∀ (a : BitVec 16) (freq : Bool),
    (0 ≤ angleFrac a freq ∧ angleFrac a freq ≤ 39321 / 10000) ∧
    (0 ≤ scaleAngleExact (angleFrac a freq) ∧ scaleAngleExact (angleFrac a freq) ≤ 1415556 / 1000) ∧
    (-1 ≤ Real.cos (2 * Real.pi * ((angleFrac a freq : ℚ) : ℝ)) ∧ Real.cos (2 * Real.pi * ((angleFrac a freq : ℚ) : ℝ)) ≤ 1))

/-- 10_state.md R35: the accepted calibration words are exactly the encodings of finite values greater than 0. -/
def Obligations.CalibrationLegalIffFinitePositive : Prop :=
  ∀ w : Word64, calLegal w = true ↔ (f64Finite w = true ∧ 0 < f64Val w)

/-! ## Encoding -/

/-- Decoding the encoding of every well-formed instruction gives it back, with every operand. -/
def Obligations.DecodeEncodeRoundTrip : Prop :=
  ∀ i : Instr, i.wellFormed = true → decode (encode i) = .ok i

/-- What the decoder accepts is the encoding of the instruction it answers: no bit of a port event is dropped. The
instruction is well formed unless the event is a write frame whose checksum closure (40_checksum.md R106) is broken. -/
def Obligations.EncodeDecodeRoundTrip : Prop :=
  ∀ (e : PortEvent) (i : Instr), decode e = .ok i →
    encode i = e ∧ (i.wellFormed = false ↔ ∃ f : List Byte, e = .frame f ∧ f.length = 6 ∧ byteSum f % 256 ≠ 255)

/-- Words written out from the spec's encodings decode to the instructions they stand for: 30_encoding.md R72 to R76
and R81, 10_state.md R22, 95_test_vectors.md 3.2. -/
def Obligations.WrittenOutWordsDecode : Prop :=
  decode (.frame [0x58, 0x18]) = .ok (.rdCmd 0x18) ∧
  decode (.frame [0x56, 0x34, 0x12, 0xF3]) = .ok (.rdResp 0x123456 0xF3) ∧
  decode (.frame [0xA8, 0x18, 0x56, 0x34, 0x12, 0xA3]) = .ok (.wrCmd 0x18 0x123456 0xA3) ∧
  decode (.frame [0x58, 0xAA]) = .ok .bulkCmd ∧
  decode (.hostWrite 0x00 0x0C01) = .ok (.readReg 0x0C) ∧
  decode (.hostWrite 0x00 0x1802) = .ok (.writeReg 0x18) ∧
  decode (.hostWrite 0x00 0x03) = .ok .applySettings ∧
  decode (.hostWrite 0x00 0x04) = .ok .getReadings ∧
  decode (.hostWrite 0x05 0x39) = .ok (.csrwCfg 0x39) ∧
  decode (.hostWrite 0x08 0x01) = .ok (.csrwRefused 0x08 0x01) ∧
  decode (.hostRead 0x80) = .ok (.csrr 0x80)

/-! ## The host's CSR accesses -/

/-- 30_encoding.md R82: which words are illegal, in terms of the word's fields; the write of one changes nothing but
`STATUS.ILL`, with no transport call. -/
def Obligations.IllegalCommandRefused : Prop :=
  ∀ w : Word64,
    (illegalCmd w = true ↔
      (w.toNat % 256 = 0 ∨ 5 ≤ w.toNat % 256 ∨ 65536 ≤ w.toNat ∨
        ((w.toNat % 256 = 3 ∨ w.toNat % 256 = 4) ∧ w.toNat / 256 % 256 ≠ 0))) ∧
    (illegalCmd w = true → ∀ s : State, exec (.csrwCmd w) s = .next { s with ill := true })

/-- 44_sequencer.md R200: the write of an illegal word sets `ILL` and changes nothing else; that of a legal word is
accepted, `CMD` holds it, the command it names runs to completion, and `SEQ` is `IDLE`. -/
def Obligations.CommandDispatch : Prop :=
  ∀ (w : Word64) (s : State),
    (illegalCmd w = true → exec (.csrwCmd w) s = .next { s with ill := true }) ∧
    (illegalCmd w = false → ∃ t, exec (.csrwCmd w) s = .next t ∧
      t.cmd = w ∧ t.ill = false ∧ t.seq = [] ∧ t.txn = none ∧
      (w.toNat % 256 = 1 → exec (.readReg (w.extractLsb' 8 8)) s = .next t) ∧
      (w.toNat % 256 = 2 → exec (.writeReg (w.extractLsb' 8 8)) s = .next t) ∧
      (w.toNat % 256 = 3 → exec .applySettings s = .next t) ∧
      (w.toNat % 256 = 4 → exec .getReadings s = .next t))

/-- 44_sequencer.md R212: `ARG` takes bits 23:0, the write is always accepted, nothing else changes and no transport
call is made. -/
def Obligations.ArgWriteCompletes : Prop :=
  ∀ (w : Word64) (s : State),
    exec (.csrwArg w) s = .next { s with arg := BitVec.ofNat 24 w.toNat, ill := false }

/-- 44_sequencer.md R213, 10_state.md R32: a filter code 3 refuses the whole write; otherwise bits 5:0 are stored and
bits 63:6 ignored. -/
def Obligations.CfgWriteCompletes : Prop :=
  ∀ (w : Word64) (s : State),
    ((w.toNat % 4 = 3 ∨ w.toNat / 4 % 4 = 3) → exec (.csrwCfg w) s = .next { s with ill := true }) ∧
    (w.toNat % 4 ≠ 3 → w.toNat / 4 % 4 ≠ 3 →
      exec (.csrwCfg w) s = .next { s with cfg := BitVec.ofNat 6 w.toNat, ill := false })

/-- 44_sequencer.md R214, 10_state.md R35: `CAL_DIV` and `CAL_RSH` take exactly the encodings of finite values greater
than 0; any other word is refused; no other register changes. -/
def Obligations.CalibrationWriteCompletes : Prop :=
  ∀ (w : Word64) (s : State),
    (f64Finite w = true ∧ 0 < f64Val w →
      exec (.csrwCalDiv w) s = .next { s with calDiv := w, ill := false } ∧
      exec (.csrwCalRsh w) s = .next { s with calRsh := w, ill := false }) ∧
    (¬ (f64Finite w = true ∧ 0 < f64Val w) →
      exec (.csrwCalDiv w) s = .next { s with ill := true } ∧ exec (.csrwCalRsh w) s = .next { s with ill := true })

/-- 44_sequencer.md R215: a host write to a read-only or unimplemented index is decoded as refused and changes nothing
but `STATUS.ILL`. -/
def Obligations.ReadOnlyWriteRefused : Prop :=
  ∀ (idx : Byte) (w : Word64) (s : State),
    idx ≠ 0x00 → idx ≠ 0x03 → idx ≠ 0x05 → idx ≠ 0x06 → idx ≠ 0x07 →
    decode (.hostWrite idx w) = .ok (.csrwRefused idx w) ∧
    exec (.csrwRefused idx w) s = .next { s with ill := true }

/-- 44_sequencer.md R216: a host read returns the slot and changes no state; 10_state.md R22, R23 and 60_exceptions.md
R240: the slot of every index, as numbers. -/
def Obligations.HostReadReturnsSlot : Prop :=
  ∀ s : State,
    (∀ idx : Byte, exec (.csrr idx) s = .next { s with replies := s.replies ++ [csrRead idx s] }) ∧
    csrRead 0x00 s = s.cmd ∧
    (csrRead 0x01 s).toNat =
      (match s.err with | .none => 0 | .readLength => 1 | .readChecksum => 2 | .writeSend => 3 | .writeVerify => 4) ∧
    (csrRead 0x02 s).toNat = s.ill.toNat + 2 * s.snapValid.toNat ∧
    (csrRead 0x03 s).toNat = s.arg.toNat ∧ (csrRead 0x04 s).toNat = s.result.toNat ∧
    (csrRead 0x05 s).toNat = s.cfg.toNat ∧ csrRead 0x06 s = s.calDiv ∧ csrRead 0x07 s = s.calRsh ∧
    csrRead 0x08 s = s.snap.v ∧ csrRead 0x09 s = s.snap.i ∧ csrRead 0x0A s = s.snap.p ∧ csrRead 0x0B s = s.snap.e ∧
    csrRead 0x0C s = s.snap.t ∧ csrRead 0x0D s = s.snap.angle ∧ csrRead 0x0E s = s.snap.pf ∧
    (csrRead 0x10 s).toNat = s.raw.iFast.toNat ∧ (csrRead 0x11 s).toNat = s.raw.i.toNat ∧
    (csrRead 0x12 s).toNat = s.raw.v.toNat ∧ (csrRead 0x13 s).toNat = s.raw.p.toNat ∧
    (csrRead 0x14 s).toNat = s.raw.cnt.toNat ∧ (csrRead 0x15 s).toNat = s.raw.tInt.toNat ∧
    (csrRead 0x16 s).toNat = s.raw.tExt.toNat ∧ (csrRead 0x17 s).toNat = s.angleRaw.toNat ∧
    (∀ idx : Byte, idx = 0x0F ∨ 0x18 ≤ idx.toNat → csrRead idx s = 0)

/-! ## The host commands -/

/-- 44_sequencer.md R208, on success: `READ_REG a` answered with a valid response for `v` leaves `RESULT = v`,
`ERR = None` and one flush, send and receive on the link; nothing else changes. -/
def Obligations.ReadRegCompletes : Prop :=
  ∀ (a : Byte) (v : Word24) (s : State) (as : List Bool) (ar : List (List Byte)),
    s.link.sendAnswers = true :: as → s.link.arrivals = readResponse a v :: ar →
    exec (.readReg a) s = .next
      ({ s with result := v }.commandDone (cmdWord 0x01 a) .none
        (s.link.after as ar [.flush, .send [0x58, a] true, .recv 4 500 (readResponse a v)]))

/-- 44_sequencer.md R208, R219, from every state: the outcome of `READ_REG a` is that of the answers `ok` and `bs` its
transport calls get, which the transcript records; `RESULT` is 0 on failure; no other register changes. -/
def Obligations.ReadRegOutcome : Prop :=
  ∀ (a : Byte) (s : State), ∃ (ok : Bool) (bs : List Byte),
    (∀ b as, s.link.sendAnswers = b :: as → ok = b) ∧
    (∀ x ar, s.link.arrivals = x :: ar → bs = x) ∧
    exec (.readReg a) s = .next
      (if ok = false then
        { s with result := 0 }.commandDone (cmdWord 0x01 a) .writeSend
          (s.link.after s.link.sendAnswers.tail s.link.arrivals [.flush, .send [0x58, a] false])
      else
        { s with result := (match decRd a (bs.take 4) with | .ok v => v | .bad _ => 0) }.commandDone (cmdWord 0x01 a)
          (match decRd a (bs.take 4) with | .ok _ => .none | .bad k => k)
          { s.link.after s.link.sendAnswers.tail s.link.arrivals.tail
              [.flush, .send [0x58, a] true, .recv 4 500 (bs.take 4)] with rxBuf := bs.drop 4 })

/-- 44_sequencer.md R209, R203 for the write-protect register: exactly one send, of the write frame with `ARG`; no
unlock, read-back or relock. -/
def Obligations.WriteProtectRegisterCompletes : Prop :=
  ∀ (s : State) (ok : Bool) (as : List Bool), s.link.sendAnswers = ok :: as →
    exec (.writeReg 0x1A) s = .next
      (s.commandDone (cmdWord 0x02 0x1A) (if ok then .none else .writeSend)
        (s.link.after as s.link.arrivals [.flush, .send (encWr 0x1A s.arg) ok]))

/-- 44_sequencer.md R209, R203 for every other register, on success: unlock, write, read-back, relock, in that order,
and `ERR = None` whether or not the relock was sent (70_reset_and_hazards.md R280). -/
def Obligations.WriteRegCompletes : Prop :=
  ∀ (a : Byte) (s : State) (relock : Bool) (as : List Bool) (ar : List (List Byte)), a ≠ 0x1A →
    s.link.sendAnswers = true :: true :: true :: relock :: as → s.link.arrivals = readResponse a s.arg :: ar →
    exec (.writeReg a) s = .next
      (s.commandDone (cmdWord 0x02 a) .none
        (s.link.after as ar [.flush, .send unlockFrame true, .flush, .send (encWr a s.arg) true,
          .flush, .send [0x58, a] true, .recv 4 500 (readResponse a s.arg), .flush, .send lockFrame relock]))

/-- 44_sequencer.md R203, R209: each failure of a verified write ends it with its kind and with no relock: the unlock
send, the write send, the read-back's send, its length or checksum, and the compare. -/
def Obligations.WriteRegFailures : Prop :=
  ∀ (a : Byte) (s : State) (as : List Bool) (ar : List (List Byte)), a ≠ 0x1A →
    (s.link.sendAnswers = false :: as →
      exec (.writeReg a) s = .next (s.commandDone (cmdWord 0x02 a) .writeSend
        (s.link.after as s.link.arrivals [.flush, .send unlockFrame false]))) ∧
    (s.link.sendAnswers = true :: false :: as →
      exec (.writeReg a) s = .next (s.commandDone (cmdWord 0x02 a) .writeSend
        (s.link.after as s.link.arrivals
          [.flush, .send unlockFrame true, .flush, .send (encWr a s.arg) false]))) ∧
    (s.link.sendAnswers = true :: true :: false :: as →
      exec (.writeReg a) s = .next (s.commandDone (cmdWord 0x02 a) .writeSend
        (s.link.after as s.link.arrivals
          [.flush, .send unlockFrame true, .flush, .send (encWr a s.arg) true, .flush, .send [0x58, a] false]))) ∧
    (∀ (bs : List Byte) (k : ErrKind), bs.length ≤ 4 → decRd a bs = .bad k →
      s.link.sendAnswers = true :: true :: true :: as → s.link.arrivals = bs :: ar →
      exec (.writeReg a) s = .next (s.commandDone (cmdWord 0x02 a) k
        (s.link.after as ar [.flush, .send unlockFrame true, .flush, .send (encWr a s.arg) true,
          .flush, .send [0x58, a] true, .recv 4 500 bs]))) ∧
    (∀ v : Word24, v ≠ s.arg →
      s.link.sendAnswers = true :: true :: true :: as → s.link.arrivals = readResponse a v :: ar →
      exec (.writeReg a) s = .next (s.commandDone (cmdWord 0x02 a) .writeVerify
        (s.link.after as ar [.flush, .send unlockFrame true, .flush, .send (encWr a s.arg) true,
          .flush, .send [0x58, a] true, .recv 4 500 (readResponse a v)])))

/-- 44_sequencer.md R203, 70_reset_and_hazards.md R277, from every state: a write to a register other than the
write-protect register succeeds exactly when its last transport call is the send of the lock frame. -/
def Obligations.RelockSentIffVerified : Prop :=
  ∀ (a : Byte) (s t : State), a ≠ 0x1A → exec (.writeReg a) s = .next t →
    (t.err = .none ↔ ∃ relock, t.link.log.getLast? = some (.send lockFrame relock))

/-- 44_sequencer.md R205, R210, on success: mode read, then the verified write of `m2`, the low 24 bits of the overlay
of the value read (42_bitfield_packer.md R158), 5 sends and 2 receives, and no register but `ERR` is written. -/
def Obligations.ApplySettingsCompletes : Prop :=
  ∀ (m m2 : Word24) (s : State) (relock : Bool) (as : List Bool) (ar : List (List Byte)),
    m2 = (modeOverlay Config.modeLayout.params Config.reservedFilterCode (m.zeroExtend 32) s.cfg).extractLsb' 0 24 →
    s.link.sendAnswers = true :: true :: true :: true :: relock :: as →
    s.link.arrivals = readResponse 0x18 m :: readResponse 0x18 m2 :: ar →
    exec .applySettings s = .next
      (s.commandDone (cmdWord 0x03 0) .none
        (s.link.after as ar [.flush, .send [0x58, 0x18] true, .recv 4 500 (readResponse 0x18 m),
          .flush, .send unlockFrame true, .flush, .send (encWr 0x18 m2) true,
          .flush, .send [0x58, 0x18] true, .recv 4 500 (readResponse 0x18 m2), .flush, .send lockFrame relock]))

/-- 44_sequencer.md R205, R219: when the mode register cannot be read nothing is written to the chip, and `ERR` is the
read's kind. -/
def Obligations.ApplySettingsReadFailure : Prop :=
  ∀ (s : State) (as : List Bool) (ar : List (List Byte)),
    (s.link.sendAnswers = false :: as →
      exec .applySettings s = .next (s.commandDone (cmdWord 0x03 0) .writeSend
        (s.link.after as s.link.arrivals [.flush, .send [0x58, 0x18] false]))) ∧
    (∀ (bs : List Byte) (k : ErrKind), bs.length ≤ 4 → decRd 0x18 bs = .bad k →
      s.link.sendAnswers = true :: as → s.link.arrivals = bs :: ar →
      exec .applySettings s = .next (s.commandDone (cmdWord 0x03 0) k
        (s.link.after as ar [.flush, .send [0x58, 0x18] true, .recv 4 500 bs])))

/-- 44_sequencer.md R209, R210: from every state `WRITE_REG` and `APPLY_SETTINGS` complete and write no register but
`CMD`, `STATUS.ILL` and `ERR`: `CFG`, the calibration, `ARG`, `RESULT` and the snapshot are as before. -/
def Obligations.WritingCommandsTouchOnlyErr : Prop :=
  ∀ s : State,
    (∀ a : Byte, ∃ k l, exec (.writeReg a) s = .next (s.commandDone (cmdWord 0x02 a) k l)) ∧
    (∃ k l, exec .applySettings s = .next (s.commandDone (cmdWord 0x03 0) k l))

/-- 44_sequencer.md R206, R207, R211, on success: bulk read, angle read, and the fifteen registers and `SNAP_VALID`
committed together; the snapshot is the scaler's of the fields, the calibration and the line frequency that hold. -/
def Obligations.GetReadingsCompletes : Prop :=
  ∀ (f : BulkFrame) (ra : Word24) (s : State) (as : List Bool) (ar : List (List Byte)), bulkChecksumOk f →
    s.link.sendAnswers = true :: true :: as → s.link.arrivals = bulkRespBytes f :: readResponse 0x0C ra :: ar →
    exec .getReadings s = .next
      ({ s with
          snap := scaledSnapshot (fieldsOf f) ra s.calDiv s.calRsh (s.cfg.getLsbD 5)
          raw := fieldsOf f, angleRaw := ra, snapValid := true }.commandDone (cmdWord 0x04 0) .none
        (s.link.after as ar [.flush, .send [0x58, 0xAA] true, .recv 35 500 (bulkRespBytes f),
          .flush, .send [0x58, 0x0C] true, .recv 4 500 (readResponse 0x0C ra)]))

/-- 44_sequencer.md R206, R219: each failure of `GET_READINGS` ends it with its kind; after a bulk failure the angle is
not read; the snapshot, the raw registers and `SNAP_VALID` are as before. -/
def Obligations.GetReadingsFailures : Prop :=
  ∀ (s : State) (as : List Bool) (ar : List (List Byte)),
    (s.link.sendAnswers = false :: as →
      exec .getReadings s = .next (s.commandDone (cmdWord 0x04 0) .writeSend
        (s.link.after as s.link.arrivals [.flush, .send [0x58, 0xAA] false]))) ∧
    (∀ (bs : List Byte) (k : ErrKind), bs.length ≤ 35 → decBulk bs = .bad k →
      s.link.sendAnswers = true :: as → s.link.arrivals = bs :: ar →
      exec .getReadings s = .next (s.commandDone (cmdWord 0x04 0) k
        (s.link.after as ar [.flush, .send [0x58, 0xAA] true, .recv 35 500 bs]))) ∧
    (∀ f : BulkFrame, bulkChecksumOk f →
      s.link.sendAnswers = true :: false :: as → s.link.arrivals = bulkRespBytes f :: ar →
      exec .getReadings s = .next (s.commandDone (cmdWord 0x04 0) .writeSend
        (s.link.after as ar [.flush, .send [0x58, 0xAA] true, .recv 35 500 (bulkRespBytes f),
          .flush, .send [0x58, 0x0C] false]))) ∧
    (∀ (f : BulkFrame) (bs : List Byte) (k : ErrKind), bulkChecksumOk f → bs.length ≤ 4 → decRd 0x0C bs = .bad k →
      s.link.sendAnswers = true :: true :: as → s.link.arrivals = bulkRespBytes f :: bs :: ar →
      exec .getReadings s = .next (s.commandDone (cmdWord 0x04 0) k
        (s.link.after as ar [.flush, .send [0x58, 0xAA] true, .recv 35 500 (bulkRespBytes f),
          .flush, .send [0x58, 0x0C] true, .recv 4 500 bs])))

/-- 10_state.md R36, 60_exceptions.md R245 (b): from every state, a `GET_READINGS` that fails leaves the snapshot, the
raw registers and `SNAP_VALID` as they were, and one that succeeds sets `SNAP_VALID` and changes them together. -/
def Obligations.SnapshotAllOrNothing : Prop :=
  ∀ s : State, ∃ t, exec .getReadings s = .next t ∧
    (t.err ≠ .none → t = s.commandDone (cmdWord 0x04 0) t.err t.link) ∧
    (t.err = .none → ∃ f ra, t = (commit f ra s).commandDone (cmdWord 0x04 0) .none t.link)

/-- 43_scaler.md R170 with R173 to R181: after a successful `GET_READINGS` every snapshot register is within the
block's tolerance of the exact value of its formula (or that value is beyond binary64). The scaler is a free constant
that conforms (log entry 12). -/
def Obligations.SnapshotConformsToFormulas : Prop :=
  ∀ s t : State, calLegal s.calDiv = true → calLegal s.calRsh = true →
    exec .getReadings s = .next t → t.err = .none →
    Conforms Config.scaler.tolRel Config.scaler.tolAbs ((t.raw.v.toNat * kv * f64Val s.calDiv : ℚ) : ℝ) t.snap.v ∧
    Conforms Config.scaler.tolRel Config.scaler.tolAbs ((t.raw.i.toNat * ki / f64Val s.calRsh : ℚ) : ℝ) t.snap.i ∧
    Conforms Config.scaler.tolRel Config.scaler.tolAbs
      ((t.raw.p.toNat * kp * f64Val s.calDiv / f64Val s.calRsh : ℚ) : ℝ) t.snap.p ∧
    Conforms Config.scaler.tolRel Config.scaler.tolAbs
      ((t.raw.cnt.toNat * ke * f64Val s.calDiv / f64Val s.calRsh : ℚ) : ℝ) t.snap.e ∧
    Conforms Config.scaler.tolRel Config.scaler.tolAbs
      ((170 / 448 * (t.raw.tInt.toNat / 2 - 32) - 45 : ℚ) : ℝ) t.snap.t ∧
    Conforms Config.scaler.tolRel Config.scaler.tolAbs
      (((t.angleRaw.toNat % 65536 : Nat) * (if s.cfg.getLsbD 5 then 60 else 50) / 1000000 * 360 : ℚ) : ℝ)
      t.snap.angle ∧
    Conforms Config.scaler.tolRel Config.scaler.pfTolAbs
      (Real.cos (2 * Real.pi *
        (((t.angleRaw.toNat % 65536 : Nat) * (if s.cfg.getLsbD 5 then 60 else 50) / 1000000 : ℚ) : ℝ))) t.snap.pf

/-- The error kinds each command can end with, which the spec derives as R241: `READ_REG` and `GET_READINGS` never
`WriteVerify`, a write of the write-protect register only `None` or `WriteSend`. -/
def Obligations.ErrorKindsPerCommand : Prop :=
  ∀ s t : State,
    (∀ a : Byte, exec (.readReg a) s = .next t → t.err ≠ .writeVerify) ∧
    (exec (.writeReg 0x1A) s = .next t → t.err = .none ∨ t.err = .writeSend) ∧
    (exec .getReadings s = .next t → t.err ≠ .writeVerify)

/-- 20_memory.md R63, 41_frame_codec.md R132: bytes left in the receive buffer have no effect on any host command,
because the flush before its first send discards them. -/
def Obligations.StaleBytesHaveNoEffect : Prop :=
  ∀ (s : State) (stale : List Byte),
    (∀ a : Byte, exec (.readReg a) { s with link := { s.link with rxBuf := stale } } = exec (.readReg a) s) ∧
    (∀ a : Byte, exec (.writeReg a) { s with link := { s.link with rxBuf := stale } } = exec (.writeReg a) s) ∧
    exec .applySettings { s with link := { s.link with rxBuf := stale } } = exec .applySettings s ∧
    exec .getReadings { s with link := { s.link with rxBuf := stale } } = exec .getReadings s

/-- 43_scaler.md R182, 70_reset_and_hazards.md R278: `GET_READINGS` depends on `CFG` only through its `FREQ` bit: two
states that differ only in the other bits end in states that differ only there. -/
def Obligations.ReadingsDependOnFreqOnly : Prop :=
  ∀ (s t : State) (c : BitVec 6), c.getLsbD 5 = s.cfg.getLsbD 5 → exec .getReadings s = .next t →
    exec .getReadings { s with cfg := c } = .next { t with cfg := c }

/-! ## Wire frames -/

/-- 70_reset_and_hazards.md R271, R283, R272: at `IDLE`, after a reset or between commands, the link's transcript grows
only by a step that runs an accepted command word (a host write to `CMD`), and `ERR` changes only by one that accepts
such a word or by a reset, which keeps the link. In particular a frame event sends nothing there. That the environment's
acts are the entries of `inputs` is the model's choice (log entry 4). -/
def Obligations.NoLinkActivityOutsideCommands : Prop :=
  ∀ s t : State, s.seq = [] → step s = .next t →
    (t.link.log ≠ s.link.log →
      ∃ w rest, illegalCmd w = false ∧ s.inputs = .event (.hostWrite 0x00 w) :: rest) ∧
    (t.err ≠ s.err →
      (∃ w rest, illegalCmd w = false ∧
        (s.inputs = .event (.hostWrite 0x00 w) :: rest ∨ s.inputs = .stepwise (.hostWrite 0x00 w) :: rest)) ∨
      ((∃ n rest, s.inputs = .reset n :: rest) ∧ t.err = .none ∧ t.link = s.link))

/-- 44_sequencer.md R217, the five sending rows with both answers: the frame the running step sends goes out by a flush
and one send (R204); a success moves `SEQ` to the next step, a failure ends the command with `WriteSend` (and
`READ_REG` with `RESULT = 0`, R208), and the relock ends it whatever its answer. The bytes of a read command for 0xAA
are those of the bulk command (30_encoding.md R80). That the frame event runs the step is the model's choice (log
entry 7). -/
def Obligations.FramesEmittedInTransaction : Prop :=
  ∀ (s : State) (t : Txn) (ok : Bool) (as : List Bool) (up : List SeqStep), s.txn = some t →
    s.link.sendAnswers = ok :: as →
    (∀ a : Byte, s.seq = up ++ [.rdSend] → t.addr = a → exec (.rdCmd a) s = .next { s with
      err := if ok then s.err else .writeSend
      result := if ok = false ∧ up = [] then 0 else s.result
      seq := if ok then up ++ [.rdRecv] else [], txn := if ok then some { t with sent := [0x58, a] } else none
      link := s.link.after as s.link.arrivals [.flush, .send [0x58, a] ok] }) ∧
    (s.seq = [.grSend] → exec .bulkCmd s = .next { s with
      err := if ok then s.err else .writeSend
      seq := if ok then [.grRecv] else [], txn := if ok then some { t with sent := [0x58, 0xAA] } else none
      link := s.link.after as s.link.arrivals [.flush, .send [0x58, 0xAA] ok] }) ∧
    (s.seq = up ++ [.wrUnlock] → exec (.wrCmd 0x1A 0x55 0xE8) s = .next { s with
      err := if ok then s.err else .writeSend
      seq := if ok then up ++ [.wrWrite] else [], txn := if ok then some { t with sent := unlockFrame } else none
      link := s.link.after as s.link.arrivals [.flush, .send unlockFrame ok] }) ∧
    (∀ (a : Byte) (v : Word24), s.seq = up ++ [.wrWrite] → t.addr = a → t.value = v →
      exec (.wrCmd a v (cksum ([0xA8, a] ++ enc24 v))) s = .next { s with
        err := if ok then s.err else .writeSend
        seq := if ok = true ∧ a ≠ 0x1A then up ++ [.wrVerify] else []
        txn := if ok = true ∧ a ≠ 0x1A then some { t with sent := encWr a v } else none
        link := s.link.after as s.link.arrivals [.flush, .send (encWr a v) ok] }) ∧
    (s.seq = up ++ [.wrRelock] → exec (.wrCmd 0x1A 0x00 0x3D) s = .next { s with
      seq := [], txn := none
      link := s.link.after as s.link.arrivals [.flush, .send lockFrame ok] }) ∧
    exec (.rdCmd 0xAA) s = exec .bulkCmd s

/-- 20_memory.md R62, 30_encoding.md R79, 40_checksum.md R103: a command frame that the running step does not send (at
`IDLE` none is sent, 70_reset_and_hazards.md R271), or a write frame with another checksum byte than `ENC_WR` computes,
is no event of the block, and nothing happens. That such an event leaves the state alone is the model's choice (log
entries 7, 9). -/
def Obligations.FramesNotDueDoNothing : Prop :=
  ∀ s : State,
    (s.seq = [] → dueFrame s = none) ∧
    (∀ a : Byte, dueFrame s ≠ some [0x58, a] → exec (.rdCmd a) s = .next s) ∧
    (dueFrame s ≠ some [0x58, 0xAA] → exec .bulkCmd s = .next s) ∧
    (∀ (a : Byte) (v : Word24) (c : Byte), dueFrame s ≠ some (encWr a v) → exec (.wrCmd a v c) s = .next s) ∧
    (∀ (a : Byte) (v : Word24) (c : Byte), c ≠ cksum ([0xA8, a] ++ enc24 v) → exec (.wrCmd a v c) s = .next s)

/-- 41_frame_codec.md R122 with 44_sequencer.md R217: what each `RD_RECV` does with a read response. With the right
checksum over the command sent and the payload, `READ_REG` ends with the value in `RESULT` (R208), a read-back goes to
the relock or ends with `WriteVerify` (R203), a mode read goes to the write of the overlaid value (R205), and an angle
read to the commit (R206); with another checksum the command ends with `ReadChecksum`. That the frame event is the
receive's answer is the model's choice (log entry 8). -/
def Obligations.ReadResponseTaken : Prop :=
  ∀ (s : State) (t : Txn) (a c : Byte) (v : Word24) (up : List SeqStep),
    s.txn = some t → t.sent = [0x58, a] → s.link.rxBuf = [] →
    (c = cksum ([0x58, a] ++ enc24 v) → s.seq = [.rdRecv] → exec (.rdResp v c) s = .next { s with
      result := v, seq := [], txn := none
      link := { s.link with log := s.link.log ++ [.recv 4 500 (enc24 v ++ [c])] } }) ∧
    (c = cksum ([0x58, a] ++ enc24 v) → s.seq = up ++ [.wrVerify, .rdRecv] → up = [] ∨ up = [.asWrite] →
      exec (.rdResp v c) s = .next { s with
        err := if v = t.value then s.err else .writeVerify
        seq := if v = t.value then up ++ [.wrRelock] else []
        txn := if v = t.value then some { t with readBack := v } else none
        link := { s.link with log := s.link.log ++ [.recv 4 500 (enc24 v ++ [c])] } }) ∧
    (c = cksum ([0x58, a] ++ enc24 v) → s.seq = [.asRead, .rdRecv] → exec (.rdResp v c) s = .next { s with
      seq := [.asWrite]
      txn := some { t with
        readBack := v
        value := (modeOverlay Config.modeLayout.params Config.reservedFilterCode (v.zeroExtend 32)
          s.cfg).extractLsb' 0 24 }
      link := { s.link with log := s.link.log ++ [.recv 4 500 (enc24 v ++ [c])] } }) ∧
    (c = cksum ([0x58, a] ++ enc24 v) → s.seq = [.grAngle, .rdRecv] → exec (.rdResp v c) s = .next { s with
      seq := [.grCommit], txn := some { t with readBack := v }
      link := { s.link with log := s.link.log ++ [.recv 4 500 (enc24 v ++ [c])] } }) ∧
    (c ≠ cksum ([0x58, a] ++ enc24 v) → s.seq = up ++ [.rdRecv] → exec (.rdResp v c) s = .next { s with
      err := .readChecksum, result := if up = [] then 0 else s.result, seq := [], txn := none
      link := { s.link with log := s.link.log ++ [.recv 4 500 (enc24 v ++ [c])] } })

/-- 41_frame_codec.md R129 with 44_sequencer.md R206: a bulk response taken by the receiving step of `GET_READINGS`
goes to the angle read with its seven fields if its checksum is right, else ends the command with `ReadChecksum`; no
snapshot or raw register changes either way. That the frame event is the receive's answer is the model's choice (log
entry 8). -/
def Obligations.BulkResponseTaken : Prop :=
  ∀ (s : State) (t : Txn) (f : BulkFrame), s.seq = [.grRecv] → s.txn = some t → s.link.rxBuf = [] →
    (bulkChecksumOk f → exec (.bulkResp f) s = .next { s with
      seq := [.grAngle], txn := some { t with fields := some (fieldsOf f) }
      link := { s.link with log := s.link.log ++ [.recv 35 500 (bulkRespBytes f)] } }) ∧
    (¬ bulkChecksumOk f → exec (.bulkResp f) s = .next { s with
      err := .readChecksum, seq := [], txn := none
      link := { s.link with log := s.link.log ++ [.recv 35 500 (bulkRespBytes f)] } })

/-- 30_encoding.md R79 with 44_sequencer.md R217: what a receiving step does with bytes that are not the response it
waits for. `RD_RECV` takes the first 4 bytes of a bulk response as it takes a read response of those bytes, and leaves
the other 31 in the buffer (70_reset_and_hazards.md R279); `GR_RECV` ends with `ReadLength` on a read response; any
bytes `bs` that arrive, whether raw or as a frame event that is none of the five frames, are too short (`ReadLength`) or
are checked by their first bytes. That a frame event is an arrival, and that such bytes come from the chip, is the
model's choice (log entries 8, 9). -/
def Obligations.OtherBytesTaken : Prop :=
  ∀ (s : State) (t : Txn) (up : List SeqStep) (rest : List Input), s.txn = some t → s.link.rxBuf = [] →
    (∀ (f : BulkFrame) (v : Word24) (c : Byte) (u : State), s.seq = up ++ [.rdRecv] →
      enc24 v ++ [c] = (bulkRespBytes f).take 4 → exec (.rdResp v c) s = .next u →
      exec (.bulkResp f) s = .next { u with link := { u.link with rxBuf := (bulkRespBytes f).drop 4 } }) ∧
    (∀ (v : Word24) (c : Byte), s.seq = [.grRecv] → exec (.rdResp v c) s = .next { s with
      err := .readLength, seq := [], txn := none
      link := { s.link with log := s.link.log ++ [.recv 35 500 (enc24 v ++ [c])] } }) ∧
    (∀ (bs : List Byte) (why : DecodeError),
      s.inputs = .arrive bs :: rest ∨ (s.inputs = .event (.frame bs) :: rest ∧ decodeFrame bs = .error why) →
      (s.seq = up ++ [.rdRecv] → bs.length < 4 → step s = .next { s with
        err := .readLength, result := if up = [] then 0 else s.result, seq := [], txn := none, inputs := rest
        link := { s.link with log := s.link.log ++ [.recv 4 500 bs] } }) ∧
      (s.seq = [.grRecv] → bs.length < 35 → step s = .next { s with
        err := .readLength, seq := [], txn := none, inputs := rest
        link := { s.link with log := s.link.log ++ [.recv 35 500 bs] } }) ∧
      (∀ a : Byte, s.seq = [.rdRecv] → t.sent = [0x58, a] → step s = .next { s with
        err := (match decRd a (bs.take 4) with | .ok _ => s.err | .bad k => k)
        result := (match decRd a (bs.take 4) with | .ok v => v | .bad _ => 0)
        seq := [], txn := none, inputs := rest
        link := { s.link with
          rxBuf := bs.drop 4, log := s.link.log ++ [.recv 4 500 (bs.take 4)] } }))

/-- 30_encoding.md R77, R79, 41_frame_codec.md R132: bytes the block did not ask for are not parsed; they stay in the
receive buffer and nothing else changes, whether they are a response frame, bytes that are none of the five frames, or
raw bytes. That a frame event is an arrival is the model's choice (log entries 8, 9). -/
def Obligations.UnaskedFramesStayInBuffer : Prop :=
  ∀ s : State, receiving s = false →
    (∀ (v : Word24) (c : Byte), exec (.rdResp v c) s = .next
      { s with link := { s.link with rxBuf := s.link.rxBuf ++ (enc24 v ++ [c]) } }) ∧
    (∀ f : BulkFrame, exec (.bulkResp f) s = .next
      { s with link := { s.link with rxBuf := s.link.rxBuf ++ bulkRespBytes f } }) ∧
    (∀ (bs : List Byte) (why : DecodeError) (rest : List Input),
      s.inputs = .arrive bs :: rest ∨ (s.inputs = .event (.frame bs) :: rest ∧ decodeFrame bs = .error why) →
      step s = .next { s with inputs := rest, link := { s.link with rxBuf := s.link.rxBuf ++ bs } })

/-! ## The sequencer and the step -/

/-- 44_sequencer.md R217, 20_memory.md R61: running a host command one sequencer step at a time, at most 10 steps,
ends at `IDLE` in exactly the state its atomic meaning gives, from every state and for every answer of the
environment. -/
def Obligations.StepwiseCommandEqualsAtomic : Prop :=
  ∀ (i : Instr) (s t : State), beginCommand i s = some t →
    ∃ u, seqRun 10 t = some u ∧ u.seq = [] ∧ exec i s = .next u

/-- 10_state.md R25, 20_memory.md R61: at `IDLE` the step runs the decoded instruction; a frame event is taken whatever
`SEQ` holds; a host access waits while a command runs, which takes one step. That the next instruction is the head of the inputs is
the model's choice (log entry 4). -/
def Obligations.StepRunsDecodedInstruction : Prop :=
  ∀ (e : PortEvent) (i : Instr) (rest : List Input) (s : State), s.inputs = .event e :: rest → decode e = .ok i →
    (s.seq = [] → step s = exec i { s with inputs := rest }) ∧
    (isHostAccess e = false → step s = exec i { s with inputs := rest }) ∧
    (s.seq ≠ [] → isHostAccess e = true → ∀ t, seqStep s = some t → step s = .next t)

/-- 44_sequencer.md R217 through the step: a command begun stepwise is accepted in one step and each further step is
one row of the transition table; with nothing at the ports and no command the block waits (60_exceptions.md R255). The
stepwise input, and what a step does with the list of inputs, are the model's choices (log entries 10 and 4). -/
def Obligations.StepRunsSequencer : Prop :=
  (∀ (e : PortEvent) (i : Instr) (rest : List Input) (s t : State), s.seq = [] → s.inputs = .stepwise e :: rest →
    decode e = .ok i → beginCommand i { s with inputs := rest } = some t → step s = .next t) ∧
  (∀ s t : State, s.seq ≠ [] → s.inputs = [] → seqStep s = some t → step s = .next t) ∧
  (∀ s : State, s.seq = [] → s.inputs = [] → step s = .next s)

/-- A word placed where the step fetches is the instruction the next step runs (the model's choices of log entries 4
and 6). -/
def Obligations.PlacedWordRunsNext : Prop :=
  ∀ (nbits w : Nat) (i : Instr) (s : State), decodeTableWord nbits w = some i → s.seq = [] → s.txn = none →
    step (s.withFetchWord nbits w) = exec i s

/-- 70_reset_and_hazards.md R270, 95_test_vectors.md 3.7: what every CSR reads after reset, `SEQ` at `IDLE` and no
transient value. -/
def Obligations.ResetValues : Prop :=
  (∀ idx : Byte, csrRead idx State.reset = if idx = 0x06 ∨ idx = 0x07 then 0x3FF0000000000000 else 0) ∧
  State.reset.seq = [] ∧ State.reset.txn = none

/-- 70_reset_and_hazards.md R270 to R273: a reset taken in any state, a running command included, gives every CSR its
reset value at once, with `SEQ` at `IDLE`, no transport call and the link's buffer kept; one that is `n + 1` steps
away lets the running command take one step and is then one step nearer (when a reset lands is the model's input, log
entry 14). -/
def Obligations.ResetAbandonsCommand : Prop :=
  (∀ (s : State) (rest : List Input), s.inputs = .reset 0 :: rest →
    ∃ t, step s = .next t ∧ (∀ idx : Byte, csrRead idx t = csrRead idx State.reset) ∧ t.seq = [] ∧ t.txn = none ∧
      t.link = s.link ∧ t.inputs = rest) ∧
  (∀ (n : Nat) (s t : State) (rest : List Input), s.inputs = .reset (n + 1) :: rest → s.seq ≠ [] →
    seqStep { s with inputs := .reset n :: rest } = some t → step s = .next t ∧ t.inputs = .reset n :: rest)

/-! ## Invariants every step keeps -/

/-- `State.registersLegal` holds at reset, and the other invariants with it. -/
def Obligations.InvariantsHoldAtReset : Prop :=
  State.reset.registersLegal ∧ State.reset.snapshotCoherent ∧ State.reset.seqLegal ∧ State.reset.linkLegal

/-- 10_state.md R26, R32, R35: every step keeps `CMD` at 0 or an accepted word, `CFG` at an enumerated variant and the
calibration finite and positive. -/
def Obligations.StepKeepsRegistersLegal : Prop :=
  ∀ s t : State, s.registersLegal → step s = .next t → t.registersLegal

/-- The snapshot invariant the spec derives as 10_state.md R38: every step keeps it. -/
def Obligations.StepKeepsSnapshotCoherent : Prop :=
  ∀ s t : State, s.registersLegal → s.snapshotCoherent → step s = .next t → t.snapshotCoherent

/-- 10_state.md R24, 44_sequencer.md R217: every step keeps `SEQ` and the transient values legal, and (60_exceptions.md
R246: the block has no trap) no step from such a state faults. -/
def Obligations.StepKeepsSequencerLegal : Prop :=
  ∀ s : State, s.seqLegal → (∀ t : State, step s = .next t → t.seqLegal) ∧ ∀ r : Fault, step s ≠ .fault r

/-- 20_memory.md R62, 30_encoding.md R77, R79, 44_sequencer.md R204: every step keeps the transcript ordered: only the
three command frames are sent, each right after a flush, and a receive comes only right after the successful send of
the read command it answers and returns at most the bytes asked for. -/
def Obligations.StepKeepsLinkDiscipline : Prop :=
  ∀ s t : State, s.seqLegal → s.linkLegal → step s = .next t → t.linkLegal

/-- 10_state.md R36, R37, R30 and 44_sequencer.md R211, over every instruction that is no frame: only `GET_READINGS`
(or the write of its command word) changes a snapshot or raw register or `SNAP_VALID`, and only `READ_REG` (or the
write of its command word) changes `RESULT`. -/
def Obligations.SnapshotAndResultOnlyByTheirCommands : Prop :=
  ∀ (i : Instr) (s t : State), exec i s = .next t → (∃ e, encode i = .hostRead e) ∨ (∃ e w, encode i = .hostWrite e w) →
    ((t.snap ≠ s.snap ∨ t.raw ≠ s.raw ∨ t.angleRaw ≠ s.angleRaw ∨ t.snapValid ≠ s.snapValid) →
      i = .getReadings ∨ ∃ w, i = .csrwCmd w ∧ cmdOpc w = 0x04) ∧
    (t.result ≠ s.result → (∃ a, i = .readReg a) ∨ ∃ w, i = .csrwCmd w ∧ cmdOpc w = 0x01)

/-- 10_state.md R31, R33 to R35, R29 and 60_exceptions.md R245 (c): over every instruction, `CFG`, `CAL_DIV`,
`CAL_RSH` and `ARG` change only by the host's write to that register. -/
def Obligations.ConfigurationOnlyByHostWrites : Prop :=
  ∀ (i : Instr) (s t : State), exec i s = .next t →
    (t.cfg ≠ s.cfg → ∃ w, i = .csrwCfg w) ∧ (t.calDiv ≠ s.calDiv → ∃ w, i = .csrwCalDiv w) ∧
    (t.calRsh ≠ s.calRsh → ∃ w, i = .csrwCalRsh w) ∧ (t.arg ≠ s.arg → ∃ w, i = .csrwArg w)

/-- 10_state.md R28, 60_exceptions.md R248: over every instruction that a host write encodes, `ILL` is 1 after exactly
the refused ones. -/
def Obligations.IllSetExactlyByRefusedWrites : Prop :=
  ∀ (i : Instr) (s t : State), exec i s = .next t → (∃ e w, encode i = .hostWrite e w) →
    (t.ill = true ↔
      (∃ w, i = .csrwCmd w ∧ illegalCmd w = true) ∨ (∃ w, i = .csrwCfg w ∧ cfgLegal (w.extractLsb' 0 6) = false) ∨
      (∃ w, i = .csrwCalDiv w ∧ calLegal w = false) ∨ (∃ w, i = .csrwCalRsh w ∧ calLegal w = false) ∨
      (∃ idx w, i = .csrwRefused idx w))
end

