-- ==== Sys2Proof/Laws/Codec.lean ====
section
/-! SUPPORT. For the checksum and the frame codec, once, what each can do. -/

namespace Sys2Proof.Machine

@[simp] theorem byteSum_nil : byteSum [] = 0 := rfl
@[simp] theorem byteSum_cons (b : Byte) (bs : List Byte) : byteSum (b :: bs) = b.toNat + byteSum bs := by
  simp [byteSum]
@[simp] theorem byteSum_append (xs ys : List Byte) : byteSum (xs ++ ys) = byteSum xs + byteSum ys := by
  simp [byteSum]

@[simp] theorem enc24_length (v : Word24) : (enc24 v).length = 3 := rfl
@[simp] theorem encRd_length (a : Byte) : (encRd a).length = 2 := rfl
@[simp] theorem rdRespBytes_length (v : Word24) (c : Byte) : (rdRespBytes v c).length = 4 := rfl
@[simp] theorem encWr_length (a : Byte) (v : Word24) : (encWr a v).length = 6 := rfl
@[simp] theorem bulkRespBytes_length (f : BulkFrame) : (bulkRespBytes f).length = 35 := rfl

/-- `DEC_RD` fails only with the two read kinds. -/
theorem decRd_bad {a : Byte} {rs : List Byte} {k : ErrKind} (h : decRd a rs = .bad k) :
    k = .readLength ∨ k = .readChecksum := by
  unfold decRd at h
  split at h
  · cases h; exact .inl rfl
  · split at h
    · cases h; exact .inr rfl
    · cases h

/-- `DEC_BULK` fails only with the two read kinds. -/
theorem decBulk_bad {rs : List Byte} {k : ErrKind} (h : decBulk rs = .bad k) :
    k = .readLength ∨ k = .readChecksum := by
  unfold decBulk at h
  split at h
  · cases h; exact .inl rfl
  · split at h
    · cases h; exact .inr rfl
    · cases h

end Sys2Proof.Machine
end

