-- ==== Sys2Proof/Laws/State.lean ====
section
/-! SUPPORT. What each named update of `State` does to each field: one lemma per field per update. -/

namespace Sys2Proof.Machine

@[simp] theorem rxFlush_cmd (s : State) : (rxFlush s).cmd = s.cmd := rfl
@[simp] theorem rxFlush_err (s : State) : (rxFlush s).err = s.err := rfl
@[simp] theorem rxFlush_ill (s : State) : (rxFlush s).ill = s.ill := rfl
@[simp] theorem rxFlush_snapValid (s : State) : (rxFlush s).snapValid = s.snapValid := rfl
@[simp] theorem rxFlush_arg (s : State) : (rxFlush s).arg = s.arg := rfl
@[simp] theorem rxFlush_result (s : State) : (rxFlush s).result = s.result := rfl
@[simp] theorem rxFlush_cfg (s : State) : (rxFlush s).cfg = s.cfg := rfl
@[simp] theorem rxFlush_calDiv (s : State) : (rxFlush s).calDiv = s.calDiv := rfl
@[simp] theorem rxFlush_calRsh (s : State) : (rxFlush s).calRsh = s.calRsh := rfl
@[simp] theorem rxFlush_snap (s : State) : (rxFlush s).snap = s.snap := rfl
@[simp] theorem rxFlush_raw (s : State) : (rxFlush s).raw = s.raw := rfl
@[simp] theorem rxFlush_angleRaw (s : State) : (rxFlush s).angleRaw = s.angleRaw := rfl
@[simp] theorem rxFlush_seq (s : State) : (rxFlush s).seq = s.seq := rfl
@[simp] theorem rxFlush_txn (s : State) : (rxFlush s).txn = s.txn := rfl
@[simp] theorem rxFlush_link (s : State) : (rxFlush s).link = { s.link with rxBuf := [], log := s.link.log ++ [.flush] } := rfl
@[simp] theorem rxFlush_inputs (s : State) : (rxFlush s).inputs = s.inputs := rfl
@[simp] theorem rxFlush_replies (s : State) : (rxFlush s).replies = s.replies := rfl

@[simp] theorem txSend_cmd (f : List Byte) (s : State) : ((txSend f s).2).cmd = s.cmd := rfl
@[simp] theorem txSend_err (f : List Byte) (s : State) : ((txSend f s).2).err = s.err := rfl
@[simp] theorem txSend_ill (f : List Byte) (s : State) : ((txSend f s).2).ill = s.ill := rfl
@[simp] theorem txSend_snapValid (f : List Byte) (s : State) : ((txSend f s).2).snapValid = s.snapValid := rfl
@[simp] theorem txSend_arg (f : List Byte) (s : State) : ((txSend f s).2).arg = s.arg := rfl
@[simp] theorem txSend_result (f : List Byte) (s : State) : ((txSend f s).2).result = s.result := rfl
@[simp] theorem txSend_cfg (f : List Byte) (s : State) : ((txSend f s).2).cfg = s.cfg := rfl
@[simp] theorem txSend_calDiv (f : List Byte) (s : State) : ((txSend f s).2).calDiv = s.calDiv := rfl
@[simp] theorem txSend_calRsh (f : List Byte) (s : State) : ((txSend f s).2).calRsh = s.calRsh := rfl
@[simp] theorem txSend_snap (f : List Byte) (s : State) : ((txSend f s).2).snap = s.snap := rfl
@[simp] theorem txSend_raw (f : List Byte) (s : State) : ((txSend f s).2).raw = s.raw := rfl
@[simp] theorem txSend_angleRaw (f : List Byte) (s : State) : ((txSend f s).2).angleRaw = s.angleRaw := rfl
@[simp] theorem txSend_seq (f : List Byte) (s : State) : ((txSend f s).2).seq = s.seq := rfl
@[simp] theorem txSend_txn (f : List Byte) (s : State) : ((txSend f s).2).txn = s.txn := rfl
@[simp] theorem txSend_link (f : List Byte) (s : State) : ((txSend f s).2).link = { s.link with sendAnswers := s.link.sendAnswers.tail, log := s.link.log ++ [.send f (nextAnswer f s)] } := rfl
@[simp] theorem txSend_inputs (f : List Byte) (s : State) : ((txSend f s).2).inputs = s.inputs := rfl
@[simp] theorem txSend_replies (f : List Byte) (s : State) : ((txSend f s).2).replies = s.replies := rfl

@[simp] theorem rxRecv_cmd (n : Nat) (s : State) : ((rxRecv n s).2).cmd = s.cmd := rfl
@[simp] theorem rxRecv_err (n : Nat) (s : State) : ((rxRecv n s).2).err = s.err := rfl
@[simp] theorem rxRecv_ill (n : Nat) (s : State) : ((rxRecv n s).2).ill = s.ill := rfl
@[simp] theorem rxRecv_snapValid (n : Nat) (s : State) : ((rxRecv n s).2).snapValid = s.snapValid := rfl
@[simp] theorem rxRecv_arg (n : Nat) (s : State) : ((rxRecv n s).2).arg = s.arg := rfl
@[simp] theorem rxRecv_result (n : Nat) (s : State) : ((rxRecv n s).2).result = s.result := rfl
@[simp] theorem rxRecv_cfg (n : Nat) (s : State) : ((rxRecv n s).2).cfg = s.cfg := rfl
@[simp] theorem rxRecv_calDiv (n : Nat) (s : State) : ((rxRecv n s).2).calDiv = s.calDiv := rfl
@[simp] theorem rxRecv_calRsh (n : Nat) (s : State) : ((rxRecv n s).2).calRsh = s.calRsh := rfl
@[simp] theorem rxRecv_snap (n : Nat) (s : State) : ((rxRecv n s).2).snap = s.snap := rfl
@[simp] theorem rxRecv_raw (n : Nat) (s : State) : ((rxRecv n s).2).raw = s.raw := rfl
@[simp] theorem rxRecv_angleRaw (n : Nat) (s : State) : ((rxRecv n s).2).angleRaw = s.angleRaw := rfl
@[simp] theorem rxRecv_seq (n : Nat) (s : State) : ((rxRecv n s).2).seq = s.seq := rfl
@[simp] theorem rxRecv_txn (n : Nat) (s : State) : ((rxRecv n s).2).txn = s.txn := rfl
@[simp] theorem rxRecv_link (n : Nat) (s : State) : ((rxRecv n s).2).link = { s.link with rxBuf := (received n s).drop n, arrivals := s.link.arrivals.tail, log := s.link.log ++ [.recv n Config.rxTimeoutMs ((received n s).take n)] } := rfl
@[simp] theorem rxRecv_inputs (n : Nat) (s : State) : ((rxRecv n s).2).inputs = s.inputs := rfl
@[simp] theorem rxRecv_replies (n : Nat) (s : State) : ((rxRecv n s).2).replies = s.replies := rfl

@[simp] theorem fail_cmd (k : ErrKind) (s : State) : (fail k s).cmd = s.cmd := rfl
@[simp] theorem fail_err (k : ErrKind) (s : State) : (fail k s).err = k := rfl
@[simp] theorem fail_ill (k : ErrKind) (s : State) : (fail k s).ill = s.ill := rfl
@[simp] theorem fail_snapValid (k : ErrKind) (s : State) : (fail k s).snapValid = s.snapValid := rfl
@[simp] theorem fail_arg (k : ErrKind) (s : State) : (fail k s).arg = s.arg := rfl
@[simp] theorem fail_result (k : ErrKind) (s : State) : (fail k s).result = s.result := rfl
@[simp] theorem fail_cfg (k : ErrKind) (s : State) : (fail k s).cfg = s.cfg := rfl
@[simp] theorem fail_calDiv (k : ErrKind) (s : State) : (fail k s).calDiv = s.calDiv := rfl
@[simp] theorem fail_calRsh (k : ErrKind) (s : State) : (fail k s).calRsh = s.calRsh := rfl
@[simp] theorem fail_snap (k : ErrKind) (s : State) : (fail k s).snap = s.snap := rfl
@[simp] theorem fail_raw (k : ErrKind) (s : State) : (fail k s).raw = s.raw := rfl
@[simp] theorem fail_angleRaw (k : ErrKind) (s : State) : (fail k s).angleRaw = s.angleRaw := rfl
@[simp] theorem fail_seq (k : ErrKind) (s : State) : (fail k s).seq = s.seq := rfl
@[simp] theorem fail_txn (k : ErrKind) (s : State) : (fail k s).txn = s.txn := rfl
@[simp] theorem fail_link (k : ErrKind) (s : State) : (fail k s).link = s.link := rfl
@[simp] theorem fail_inputs (k : ErrKind) (s : State) : (fail k s).inputs = s.inputs := rfl
@[simp] theorem fail_replies (k : ErrKind) (s : State) : (fail k s).replies = s.replies := rfl

@[simp] theorem toIdle_cmd (s : State) : (toIdle s).cmd = s.cmd := rfl
@[simp] theorem toIdle_err (s : State) : (toIdle s).err = s.err := rfl
@[simp] theorem toIdle_ill (s : State) : (toIdle s).ill = s.ill := rfl
@[simp] theorem toIdle_snapValid (s : State) : (toIdle s).snapValid = s.snapValid := rfl
@[simp] theorem toIdle_arg (s : State) : (toIdle s).arg = s.arg := rfl
@[simp] theorem toIdle_result (s : State) : (toIdle s).result = s.result := rfl
@[simp] theorem toIdle_cfg (s : State) : (toIdle s).cfg = s.cfg := rfl
@[simp] theorem toIdle_calDiv (s : State) : (toIdle s).calDiv = s.calDiv := rfl
@[simp] theorem toIdle_calRsh (s : State) : (toIdle s).calRsh = s.calRsh := rfl
@[simp] theorem toIdle_snap (s : State) : (toIdle s).snap = s.snap := rfl
@[simp] theorem toIdle_raw (s : State) : (toIdle s).raw = s.raw := rfl
@[simp] theorem toIdle_angleRaw (s : State) : (toIdle s).angleRaw = s.angleRaw := rfl
@[simp] theorem toIdle_seq (s : State) : (toIdle s).seq = [] := rfl
@[simp] theorem toIdle_txn (s : State) : (toIdle s).txn = none := rfl
@[simp] theorem toIdle_link (s : State) : (toIdle s).link = s.link := rfl
@[simp] theorem toIdle_inputs (s : State) : (toIdle s).inputs = s.inputs := rfl
@[simp] theorem toIdle_replies (s : State) : (toIdle s).replies = s.replies := rfl

@[simp] theorem atSteps_cmd (st : List SeqStep) (t : Txn) (s : State) : (atSteps st t s).cmd = s.cmd := rfl
@[simp] theorem atSteps_err (st : List SeqStep) (t : Txn) (s : State) : (atSteps st t s).err = s.err := rfl
@[simp] theorem atSteps_ill (st : List SeqStep) (t : Txn) (s : State) : (atSteps st t s).ill = s.ill := rfl
@[simp] theorem atSteps_snapValid (st : List SeqStep) (t : Txn) (s : State) : (atSteps st t s).snapValid = s.snapValid := rfl
@[simp] theorem atSteps_arg (st : List SeqStep) (t : Txn) (s : State) : (atSteps st t s).arg = s.arg := rfl
@[simp] theorem atSteps_result (st : List SeqStep) (t : Txn) (s : State) : (atSteps st t s).result = s.result := rfl
@[simp] theorem atSteps_cfg (st : List SeqStep) (t : Txn) (s : State) : (atSteps st t s).cfg = s.cfg := rfl
@[simp] theorem atSteps_calDiv (st : List SeqStep) (t : Txn) (s : State) : (atSteps st t s).calDiv = s.calDiv := rfl
@[simp] theorem atSteps_calRsh (st : List SeqStep) (t : Txn) (s : State) : (atSteps st t s).calRsh = s.calRsh := rfl
@[simp] theorem atSteps_snap (st : List SeqStep) (t : Txn) (s : State) : (atSteps st t s).snap = s.snap := rfl
@[simp] theorem atSteps_raw (st : List SeqStep) (t : Txn) (s : State) : (atSteps st t s).raw = s.raw := rfl
@[simp] theorem atSteps_angleRaw (st : List SeqStep) (t : Txn) (s : State) : (atSteps st t s).angleRaw = s.angleRaw := rfl
@[simp] theorem atSteps_seq (st : List SeqStep) (t : Txn) (s : State) : (atSteps st t s).seq = st := rfl
@[simp] theorem atSteps_txn (st : List SeqStep) (t : Txn) (s : State) : (atSteps st t s).txn = some t := rfl
@[simp] theorem atSteps_link (st : List SeqStep) (t : Txn) (s : State) : (atSteps st t s).link = s.link := rfl
@[simp] theorem atSteps_inputs (st : List SeqStep) (t : Txn) (s : State) : (atSteps st t s).inputs = s.inputs := rfl
@[simp] theorem atSteps_replies (st : List SeqStep) (t : Txn) (s : State) : (atSteps st t s).replies = s.replies := rfl

@[simp] theorem accepted_cmd (s : State) : (accepted s).cmd = s.cmd := rfl
@[simp] theorem accepted_err (s : State) : (accepted s).err = s.err := rfl
@[simp] theorem accepted_ill (s : State) : (accepted s).ill = false := rfl
@[simp] theorem accepted_snapValid (s : State) : (accepted s).snapValid = s.snapValid := rfl
@[simp] theorem accepted_arg (s : State) : (accepted s).arg = s.arg := rfl
@[simp] theorem accepted_result (s : State) : (accepted s).result = s.result := rfl
@[simp] theorem accepted_cfg (s : State) : (accepted s).cfg = s.cfg := rfl
@[simp] theorem accepted_calDiv (s : State) : (accepted s).calDiv = s.calDiv := rfl
@[simp] theorem accepted_calRsh (s : State) : (accepted s).calRsh = s.calRsh := rfl
@[simp] theorem accepted_snap (s : State) : (accepted s).snap = s.snap := rfl
@[simp] theorem accepted_raw (s : State) : (accepted s).raw = s.raw := rfl
@[simp] theorem accepted_angleRaw (s : State) : (accepted s).angleRaw = s.angleRaw := rfl
@[simp] theorem accepted_seq (s : State) : (accepted s).seq = s.seq := rfl
@[simp] theorem accepted_txn (s : State) : (accepted s).txn = s.txn := rfl
@[simp] theorem accepted_link (s : State) : (accepted s).link = s.link := rfl
@[simp] theorem accepted_inputs (s : State) : (accepted s).inputs = s.inputs := rfl
@[simp] theorem accepted_replies (s : State) : (accepted s).replies = s.replies := rfl

@[simp] theorem refuseWrite_cmd (s : State) : (refuseWrite s).cmd = s.cmd := rfl
@[simp] theorem refuseWrite_err (s : State) : (refuseWrite s).err = s.err := rfl
@[simp] theorem refuseWrite_ill (s : State) : (refuseWrite s).ill = true := rfl
@[simp] theorem refuseWrite_snapValid (s : State) : (refuseWrite s).snapValid = s.snapValid := rfl
@[simp] theorem refuseWrite_arg (s : State) : (refuseWrite s).arg = s.arg := rfl
@[simp] theorem refuseWrite_result (s : State) : (refuseWrite s).result = s.result := rfl
@[simp] theorem refuseWrite_cfg (s : State) : (refuseWrite s).cfg = s.cfg := rfl
@[simp] theorem refuseWrite_calDiv (s : State) : (refuseWrite s).calDiv = s.calDiv := rfl
@[simp] theorem refuseWrite_calRsh (s : State) : (refuseWrite s).calRsh = s.calRsh := rfl
@[simp] theorem refuseWrite_snap (s : State) : (refuseWrite s).snap = s.snap := rfl
@[simp] theorem refuseWrite_raw (s : State) : (refuseWrite s).raw = s.raw := rfl
@[simp] theorem refuseWrite_angleRaw (s : State) : (refuseWrite s).angleRaw = s.angleRaw := rfl
@[simp] theorem refuseWrite_seq (s : State) : (refuseWrite s).seq = s.seq := rfl
@[simp] theorem refuseWrite_txn (s : State) : (refuseWrite s).txn = s.txn := rfl
@[simp] theorem refuseWrite_link (s : State) : (refuseWrite s).link = s.link := rfl
@[simp] theorem refuseWrite_inputs (s : State) : (refuseWrite s).inputs = s.inputs := rfl
@[simp] theorem refuseWrite_replies (s : State) : (refuseWrite s).replies = s.replies := rfl

@[simp] theorem acceptCommand_cmd (w : Word64) (s : State) : (acceptCommand w s).cmd = w := rfl
@[simp] theorem acceptCommand_err (w : Word64) (s : State) : (acceptCommand w s).err = .none := rfl
@[simp] theorem acceptCommand_ill (w : Word64) (s : State) : (acceptCommand w s).ill = false := rfl
@[simp] theorem acceptCommand_snapValid (w : Word64) (s : State) : (acceptCommand w s).snapValid = s.snapValid := rfl
@[simp] theorem acceptCommand_arg (w : Word64) (s : State) : (acceptCommand w s).arg = s.arg := rfl
@[simp] theorem acceptCommand_result (w : Word64) (s : State) : (acceptCommand w s).result = s.result := rfl
@[simp] theorem acceptCommand_cfg (w : Word64) (s : State) : (acceptCommand w s).cfg = s.cfg := rfl
@[simp] theorem acceptCommand_calDiv (w : Word64) (s : State) : (acceptCommand w s).calDiv = s.calDiv := rfl
@[simp] theorem acceptCommand_calRsh (w : Word64) (s : State) : (acceptCommand w s).calRsh = s.calRsh := rfl
@[simp] theorem acceptCommand_snap (w : Word64) (s : State) : (acceptCommand w s).snap = s.snap := rfl
@[simp] theorem acceptCommand_raw (w : Word64) (s : State) : (acceptCommand w s).raw = s.raw := rfl
@[simp] theorem acceptCommand_angleRaw (w : Word64) (s : State) : (acceptCommand w s).angleRaw = s.angleRaw := rfl
@[simp] theorem acceptCommand_seq (w : Word64) (s : State) : (acceptCommand w s).seq = s.seq := rfl
@[simp] theorem acceptCommand_txn (w : Word64) (s : State) : (acceptCommand w s).txn = s.txn := rfl
@[simp] theorem acceptCommand_link (w : Word64) (s : State) : (acceptCommand w s).link = s.link := rfl
@[simp] theorem acceptCommand_inputs (w : Word64) (s : State) : (acceptCommand w s).inputs = s.inputs := rfl
@[simp] theorem acceptCommand_replies (w : Word64) (s : State) : (acceptCommand w s).replies = s.replies := rfl

@[simp] theorem commit_cmd (f : BulkFields) (ra : Word24) (s : State) : (commit f ra s).cmd = s.cmd := rfl
@[simp] theorem commit_err (f : BulkFields) (ra : Word24) (s : State) : (commit f ra s).err = s.err := rfl
@[simp] theorem commit_ill (f : BulkFields) (ra : Word24) (s : State) : (commit f ra s).ill = s.ill := rfl
@[simp] theorem commit_snapValid (f : BulkFields) (ra : Word24) (s : State) : (commit f ra s).snapValid = true := rfl
@[simp] theorem commit_arg (f : BulkFields) (ra : Word24) (s : State) : (commit f ra s).arg = s.arg := rfl
@[simp] theorem commit_result (f : BulkFields) (ra : Word24) (s : State) : (commit f ra s).result = s.result := rfl
@[simp] theorem commit_cfg (f : BulkFields) (ra : Word24) (s : State) : (commit f ra s).cfg = s.cfg := rfl
@[simp] theorem commit_calDiv (f : BulkFields) (ra : Word24) (s : State) : (commit f ra s).calDiv = s.calDiv := rfl
@[simp] theorem commit_calRsh (f : BulkFields) (ra : Word24) (s : State) : (commit f ra s).calRsh = s.calRsh := rfl
@[simp] theorem commit_snap (f : BulkFields) (ra : Word24) (s : State) : (commit f ra s).snap = scaledSnapshot f ra s.calDiv s.calRsh (cfgFreq s.cfg) := rfl
@[simp] theorem commit_raw (f : BulkFields) (ra : Word24) (s : State) : (commit f ra s).raw = f := rfl
@[simp] theorem commit_angleRaw (f : BulkFields) (ra : Word24) (s : State) : (commit f ra s).angleRaw = ra := rfl
@[simp] theorem commit_seq (f : BulkFields) (ra : Word24) (s : State) : (commit f ra s).seq = s.seq := rfl
@[simp] theorem commit_txn (f : BulkFields) (ra : Word24) (s : State) : (commit f ra s).txn = s.txn := rfl
@[simp] theorem commit_link (f : BulkFields) (ra : Word24) (s : State) : (commit f ra s).link = s.link := rfl
@[simp] theorem commit_inputs (f : BulkFields) (ra : Word24) (s : State) : (commit f ra s).inputs = s.inputs := rfl
@[simp] theorem commit_replies (f : BulkFields) (ra : Word24) (s : State) : (commit f ra s).replies = s.replies := rfl

@[simp] theorem resetBlock_cmd (s : State) : (resetBlock s).cmd = State.reset.cmd := rfl
@[simp] theorem resetBlock_err (s : State) : (resetBlock s).err = State.reset.err := rfl
@[simp] theorem resetBlock_ill (s : State) : (resetBlock s).ill = State.reset.ill := rfl
@[simp] theorem resetBlock_snapValid (s : State) : (resetBlock s).snapValid = State.reset.snapValid := rfl
@[simp] theorem resetBlock_arg (s : State) : (resetBlock s).arg = State.reset.arg := rfl
@[simp] theorem resetBlock_result (s : State) : (resetBlock s).result = State.reset.result := rfl
@[simp] theorem resetBlock_cfg (s : State) : (resetBlock s).cfg = State.reset.cfg := rfl
@[simp] theorem resetBlock_calDiv (s : State) : (resetBlock s).calDiv = State.reset.calDiv := rfl
@[simp] theorem resetBlock_calRsh (s : State) : (resetBlock s).calRsh = State.reset.calRsh := rfl
@[simp] theorem resetBlock_snap (s : State) : (resetBlock s).snap = State.reset.snap := rfl
@[simp] theorem resetBlock_raw (s : State) : (resetBlock s).raw = State.reset.raw := rfl
@[simp] theorem resetBlock_angleRaw (s : State) : (resetBlock s).angleRaw = State.reset.angleRaw := rfl
@[simp] theorem resetBlock_seq (s : State) : (resetBlock s).seq = State.reset.seq := rfl
@[simp] theorem resetBlock_txn (s : State) : (resetBlock s).txn = State.reset.txn := rfl
@[simp] theorem resetBlock_link (s : State) : (resetBlock s).link = s.link := rfl
@[simp] theorem resetBlock_inputs (s : State) : (resetBlock s).inputs = s.inputs := rfl
@[simp] theorem resetBlock_replies (s : State) : (resetBlock s).replies = s.replies := rfl

@[simp] theorem commandDone_cmd (w : Word64) (k : ErrKind) (l : Link) (s : State) : (s.commandDone w k l).cmd = w := rfl
@[simp] theorem commandDone_err (w : Word64) (k : ErrKind) (l : Link) (s : State) : (s.commandDone w k l).err = k := rfl
@[simp] theorem commandDone_ill (w : Word64) (k : ErrKind) (l : Link) (s : State) : (s.commandDone w k l).ill = false := rfl
@[simp] theorem commandDone_snapValid (w : Word64) (k : ErrKind) (l : Link) (s : State) : (s.commandDone w k l).snapValid = s.snapValid := rfl
@[simp] theorem commandDone_arg (w : Word64) (k : ErrKind) (l : Link) (s : State) : (s.commandDone w k l).arg = s.arg := rfl
@[simp] theorem commandDone_result (w : Word64) (k : ErrKind) (l : Link) (s : State) : (s.commandDone w k l).result = s.result := rfl
@[simp] theorem commandDone_cfg (w : Word64) (k : ErrKind) (l : Link) (s : State) : (s.commandDone w k l).cfg = s.cfg := rfl
@[simp] theorem commandDone_calDiv (w : Word64) (k : ErrKind) (l : Link) (s : State) : (s.commandDone w k l).calDiv = s.calDiv := rfl
@[simp] theorem commandDone_calRsh (w : Word64) (k : ErrKind) (l : Link) (s : State) : (s.commandDone w k l).calRsh = s.calRsh := rfl
@[simp] theorem commandDone_snap (w : Word64) (k : ErrKind) (l : Link) (s : State) : (s.commandDone w k l).snap = s.snap := rfl
@[simp] theorem commandDone_raw (w : Word64) (k : ErrKind) (l : Link) (s : State) : (s.commandDone w k l).raw = s.raw := rfl
@[simp] theorem commandDone_angleRaw (w : Word64) (k : ErrKind) (l : Link) (s : State) : (s.commandDone w k l).angleRaw = s.angleRaw := rfl
@[simp] theorem commandDone_seq (w : Word64) (k : ErrKind) (l : Link) (s : State) : (s.commandDone w k l).seq = [] := rfl
@[simp] theorem commandDone_txn (w : Word64) (k : ErrKind) (l : Link) (s : State) : (s.commandDone w k l).txn = none := rfl
@[simp] theorem commandDone_link (w : Word64) (k : ErrKind) (l : Link) (s : State) : (s.commandDone w k l).link = l := rfl
@[simp] theorem commandDone_inputs (w : Word64) (k : ErrKind) (l : Link) (s : State) : (s.commandDone w k l).inputs = s.inputs := rfl
@[simp] theorem commandDone_replies (w : Word64) (k : ErrKind) (l : Link) (s : State) : (s.commandDone w k l).replies = s.replies := rfl

end Sys2Proof.Machine
end

