-- ==== Sys2Proof/Laws/Ops.lean ====
section
/-! SUPPORT. For each shared operation, once, what it can do: the lemmas later proofs cite instead of unfolding it. -/

namespace Sys2Proof.Machine

/-- `s` with another error kind and another link: all that a transaction short of its commit can do. -/
def State.withErrLink (s : State) (k : ErrKind) (l : Link) : State := { s with err := k, link := l }

@[simp] theorem withErrLink_err (s : State) (k : ErrKind) (l : Link) : (s.withErrLink k l).err = k := rfl
@[simp] theorem withErrLink_link (s : State) (k : ErrKind) (l : Link) : (s.withErrLink k l).link = l := rfl
@[simp] theorem withErrLink_cfg (s : State) (k : ErrKind) (l : Link) : (s.withErrLink k l).cfg = s.cfg := rfl
@[simp] theorem withErrLink_withErrLink (s : State) (k k' : ErrKind) (l l' : Link) :
    (s.withErrLink k l).withErrLink k' l' = s.withErrLink k' l' := rfl
@[simp] theorem fail_withErrLink (s : State) (k k' : ErrKind) (l : Link) :
    fail k' (s.withErrLink k l) = s.withErrLink k' l := rfl
@[simp] theorem overlaidMode_withErrLink (m : Word24) (s : State) (k : ErrKind) (l : Link) :
    overlaidMode m (s.withErrLink k l) = overlaidMode m s := rfl
@[simp] theorem toIdle_withErrLink_acceptCommand (w : Word64) (k : ErrKind) (l : Link) (s : State) :
    toIdle ((acceptCommand w s).withErrLink k l) = s.commandDone w k l := rfl

/-- `SEND_FRAME` empties the receive buffer, makes a flush and one send, and changes nothing else; its answer is the
scripted one where there is one. -/
theorem sendFrame_spec (f : List Byte) (s : State) :
    ∃ ok, (∀ b as, s.link.sendAnswers = b :: as → ok = b) ∧
      sendFrame f s =
        (ok, s.withErrLink s.err (s.link.after s.link.sendAnswers.tail s.link.arrivals [.flush, .send f ok])) := by
  refine ⟨nextAnswer f (rxFlush s), fun b as h => ?_, ?_⟩
  · simp [nextAnswer, h]
  · simp [sendFrame, txSend, rxFlush, Link.after, State.withErrLink]

/-- `RxRecv` returns the first bytes of the buffer and what arrives, keeps the rest, and changes nothing else. -/
theorem rxRecv_spec (n : Nat) (s : State) :
    ∃ xs, (∀ x ar, s.link.arrivals = x :: ar → xs = x) ∧
      rxRecv n s =
        ((s.link.rxBuf ++ xs).take n,
          s.withErrLink s.err
            { rxBuf := (s.link.rxBuf ++ xs).drop n
              sendAnswers := s.link.sendAnswers
              arrivals := s.link.arrivals.tail
              log := s.link.log ++ [.recv n 500 ((s.link.rxBuf ++ xs).take n)] }) := by
  refine ⟨nextArrivals n s, fun x ar h => ?_, rfl⟩
  simp [nextArrivals, h]

/-- `READ_TXN` for every pair of answers: only `ERR` (on a failure) and the link change. -/
theorem readTxn_spec (a : Byte) (s : State) :
    ∃ ok bs, (∀ b as, s.link.sendAnswers = b :: as → ok = b) ∧ (∀ x ar, s.link.arrivals = x :: ar → bs = x) ∧
      readTxn a s =
        if ok = false then
          (none, s.withErrLink .writeSend
            (s.link.after s.link.sendAnswers.tail s.link.arrivals [.flush, .send (encRd a) false]))
        else
          (match decRd a (bs.take 4) with | .ok v => some v | .bad _ => none,
            s.withErrLink (match decRd a (bs.take 4) with | .ok _ => s.err | .bad k => k)
              { s.link.after s.link.sendAnswers.tail s.link.arrivals.tail
                  [.flush, .send (encRd a) true, .recv 4 500 (bs.take 4)] with rxBuf := bs.drop 4 }) := by
  obtain ⟨ok, hok, hs⟩ := sendFrame_spec (encRd a) s
  cases ok with
  | false =>
    cases har : s.link.arrivals with
    | nil => exact ⟨false, [], hok, (by simp), by simp [readTxn, hs, har]⟩
    | cons x ar => exact ⟨false, x, hok, (by rintro y ys ⟨⟩; rfl), by simp [readTxn, hs, har]⟩
  | true =>
    obtain ⟨bs, hbs, hr⟩ := rxRecv_spec 4 (sendFrame (encRd a) s).2
    rw [hs] at hr hbs
    refine ⟨true, bs, hok, hbs, ?_⟩
    simp only [withErrLink_link, withErrLink_err, withErrLink_withErrLink, Link.after, List.nil_append,
      List.append_assoc, List.cons_append] at hr
    simp only [readTxn, hs, Config.rdRespLen, Link.after, hr, Bool.true_eq_false, if_false]
    cases decRd a (bs.take 4) <;> rfl

/-- `READ_TXN` changes only `ERR`, which a success leaves, and the link. -/
theorem readTxn_frame (a : Byte) (s : State) :
    ∃ k l, (readTxn a s).2 = s.withErrLink k l ∧ (readTxn a s ≠ (none, (readTxn a s).2) → k = s.err) ∧
      (∀ v, (readTxn a s).1 = some v → k = s.err) := by
  obtain ⟨ok, bs, -, -, h⟩ := readTxn_spec a s
  cases ok with
  | false => exact ⟨.writeSend, _, by rw [h]; rfl, by rw [h]; simp, by rw [h]; simp⟩
  | true => rw [h]; cases decRd a (bs.take 4) <;> exact ⟨_, _, rfl, by simp, by simp⟩

/-- `WRITE_TXN` after its write frame: only `ERR`, which a success leaves, and the link change. -/
theorem verifyTxn_frame (a : Byte) (v : Word24) (s : State) :
    ∃ k l, (verifyTxn a v s).2 = s.withErrLink k l ∧ ((verifyTxn a v s).1 = true → k = s.err) := by
  obtain ⟨k, l, h, -, hk⟩ := readTxn_frame a s
  rcases hr : readTxn a s with ⟨_ | rb, s'⟩ <;> rw [hr] at h hk <;> obtain rfl : s' = s.withErrLink k l := h
  · exact ⟨k, l, by simp only [verifyTxn, hr], by simp [verifyTxn, hr]⟩
  · obtain rfl := hk rb rfl
    by_cases hv : rb = v
    · obtain ⟨ok, -, h'⟩ := sendFrame_spec (encWr Config.wpAddr Config.lockCode) (s.withErrLink s.err l)
      have hv' : verifyTxn a v s = (true, (sendFrame (encWr Config.wpAddr Config.lockCode) (s.withErrLink s.err l)).2) := by
        simp [verifyTxn, hr, hv]
      rw [hv', h']
      exact ⟨_, _, rfl, fun _ => rfl⟩
    · exact ⟨.writeVerify, l, by simp [verifyTxn, hr, hv], by simp [verifyTxn, hr, hv]⟩

/-- `WRITE_TXN` from its write frame on: only `ERR`, which a success leaves, and the link change. -/
theorem writeTail_frame (a : Byte) (v : Word24) (s : State) :
    ∃ k l, (writeTail a v s).2 = s.withErrLink k l ∧ ((writeTail a v s).1 = true → k = s.err) := by
  obtain ⟨ok, -, h⟩ := sendFrame_spec (encWr a v) s
  cases ok with
  | false => exact ⟨.writeSend, _, by simp only [writeTail, h]; rfl, by simp [writeTail, h]⟩
  | true =>
    by_cases ha : a = Config.wpAddr
    · exact ⟨s.err, _, by simp only [writeTail, h, if_pos ha]; rfl, fun _ => rfl⟩
    · obtain ⟨k, l, hk, hok⟩ := verifyTxn_frame a v (sendFrame (encWr a v) s).2
      rw [h] at hk hok
      exact ⟨k, l, by simp only [writeTail, h, if_neg ha, hk]; rfl, by simpa [writeTail, h, if_neg ha] using hok⟩

/-- `WRITE_TXN`: only `ERR`, which a success leaves, and the link change. -/
theorem writeTxn_frame (a : Byte) (v : Word24) (s : State) :
    ∃ k l, (writeTxn a v s).2 = s.withErrLink k l ∧ ((writeTxn a v s).1 = true → k = s.err) := by
  by_cases ha : a = Config.wpAddr
  · simpa only [writeTxn, if_pos ha] using writeTail_frame a v s
  · obtain ⟨ok, -, h⟩ := sendFrame_spec (encWr Config.wpAddr Config.unlockCode) s
    cases ok with
    | false => exact ⟨.writeSend, _, by simp only [writeTxn, h, if_neg ha]; rfl, by simp [writeTxn, h, if_neg ha]⟩
    | true =>
      obtain ⟨k, l, hk, hok⟩ := writeTail_frame a v (sendFrame (encWr Config.wpAddr Config.unlockCode) s).2
      rw [h] at hk hok
      exact ⟨k, l, by simp only [writeTxn, h, if_neg ha, hk]; rfl, by simpa [writeTxn, h, if_neg ha] using hok⟩

/-- `APPLY_TXN`: only `ERR`, which a success leaves, and the link change. -/
theorem applyTxn_frame (s : State) :
    ∃ k l, (applyTxn s).2 = s.withErrLink k l ∧ ((applyTxn s).1 = true → k = s.err) := by
  obtain ⟨k, l, h, -, hk⟩ := readTxn_frame Config.modeAddr s
  rcases hr : readTxn Config.modeAddr s with ⟨_ | m, s'⟩ <;> rw [hr] at h hk <;>
    obtain rfl : s' = s.withErrLink k l := h
  · exact ⟨k, l, by simp only [applyTxn, hr], by simp [applyTxn, hr]⟩
  · obtain rfl := hk m rfl
    simpa only [applyTxn, hr, withErrLink_withErrLink, withErrLink_err] using
      writeTxn_frame Config.modeAddr (overlaidMode m (s.withErrLink s.err l)) (s.withErrLink s.err l)

/-- The part of `GET_TXN` after a successful send of the bulk command (44_sequencer.md R206). -/
theorem getTxn_sent (s s1 : State) (h : sendFrame encBulk s = (true, s1)) :
    getTxn s =
      match decBulk (rxRecv 35 s1).1 with
      | .bad k => (false, fail k (rxRecv 35 s1).2)
      | .ok f =>
        match readTxn Config.angleAddr (rxRecv 35 s1).2 with
        | (none, s) => (false, s)
        | (some ra, s) => (true, commit f ra s) := by
  rw [getTxn, h]
  rfl

/-- `GET_TXN`: a failure changes only `ERR` and the link; a success is one `COMMIT` and beside it changes only the
link. -/
theorem getTxn_cases (s : State) :
    (∃ k l, getTxn s = (false, s.withErrLink k l)) ∨
      ∃ f ra l, getTxn s = (true, commit f ra (s.withErrLink s.err l)) := by
  obtain ⟨ok, -, h⟩ := sendFrame_spec encBulk s
  cases ok with
  | false => exact .inl ⟨.writeSend, _, by simp only [getTxn, h]; rfl⟩
  | true =>
    rw [getTxn_sent s _ h]
    obtain ⟨bs, -, hb⟩ := rxRecv_spec 35
      (s.withErrLink s.err (s.link.after s.link.sendAnswers.tail s.link.arrivals [.flush, .send encBulk true]))
    rw [hb]
    simp only [withErrLink_link, withErrLink_err, withErrLink_withErrLink]
    generalize Link.mk _ _ _ _ = l1
    cases decBulk _ with
    | bad k => exact .inl ⟨k, l1, rfl⟩
    | ok f =>
      obtain ⟨k', l', h', -, hk'⟩ := readTxn_frame Config.angleAddr (s.withErrLink s.err l1)
      rcases hr : readTxn Config.angleAddr (s.withErrLink s.err l1) with ⟨_ | ra, s'⟩ <;> rw [hr] at h' hk' <;>
        obtain rfl := h'
      · exact .inl ⟨k', l', by simp only [withErrLink_withErrLink]⟩
      · obtain rfl := hk' ra rfl
        exact .inr ⟨f, ra, l', by simp only [withErrLink_withErrLink, withErrLink_err]⟩

end Sys2Proof.Machine
end

