-- ==== Sys2Proof/Laws/Packer.lean ====
section
/-! SUPPORT. For the packer, bit by bit, what it can do. -/

namespace Sys2Proof.Machine

/-- A field of nonzero effective width ends at or below bit 31. -/
theorem effw_le (off w : Nat) : effw off w = 0 ∨ off + effw off w ≤ 32 := by
  unfold effw; split <;> omega

/-- The bits of the field mask. -/
theorem fieldMask_getLsbD (off w i : Nat) :
    (fieldMask off w).getLsbD i = (decide (i < 32) && decide (off ≤ i) && decide (i < off + effw off w)) := by
  by_cases hi : i < 32
  · simp only [fieldMask, BitVec.getLsbD_ofNat, hi, decide_true, Bool.true_and, Nat.testBit_shiftLeft]
    by_cases ho : off ≤ i
    · rw [Nat.shiftLeft_eq, one_mul, Nat.testBit_two_pow_sub_one]
      simp only [ho, decide_true, Bool.true_and, decide_eq_decide]
      omega
    · simp [ho]
  · rw [BitVec.getLsbD_of_ge _ _ (by omega)]; simp [hi]

/-- The bits of a packed value: inside the field those of the new value, outside those of the old one. -/
theorem pack_getLsbD (r val : Word32) (off w i : Nat) (hi : i < 32) :
    (pack r off w val).getLsbD i =
      if off ≤ i ∧ i < off + effw off w then val.getLsbD (i - off) else r.getLsbD i := by
  simp only [pack, BitVec.getLsbD_or, BitVec.getLsbD_and, BitVec.getLsbD_not, BitVec.getLsbD_shiftLeft,
    fieldMask_getLsbD, hi, decide_true, Bool.true_and]
  by_cases h1 : off ≤ i <;> by_cases h2 : i < off + effw off w <;> simp [h1, h2, Nat.not_lt.mpr, Nat.not_le.mp]

end Sys2Proof.Machine
end

