-- ==== Sys2Proof/Laws/PerInstr.lean ====
section
/-! SUPPORT. Statements made per instruction. -/

namespace Sys2Proof.Laws.EncodedForm

/-- The bytes have the length and the header of a frame kind (30_encoding.md R71, R84). -/
def frameShape (bs : List Byte) : Bool :=
  (bs.length == 2 && bs.head? == some Config.rdHdr) || bs.length == 4 ||
    (bs.length == 6 && bs.head? == some Config.wrHdr) || bs.length == 35

/-- The encoding of an instruction has the form 30_encoding.md gives its row: a frame has the length and header of a
frame kind, a host write decodes to no host read, and a host read decodes to itself. -/
def Statement (i : Instr) : Prop :=
  match encode i with
  | .frame bs => frameShape bs = true
  | .hostWrite idx w => ∀ a, decodeWrite idx w ≠ .csrr a
  | .hostRead idx => decode (.hostRead idx) = .ok i

/-- A host write never decodes to a host read. -/
theorem decodeWrite_ne_csrr (idx : Byte) (w : Word64) (a : Byte) : decodeWrite idx w ≠ .csrr a := by
  unfold decodeWrite decodeCommand
  repeat' split
  all_goals simp

theorem rdCmd (a : Byte) : Statement (.rdCmd a) := rfl
theorem rdResp (v : Word24) (c : Byte) : Statement (.rdResp v c) := rfl
theorem wrCmd (a : Byte) (v : Word24) (c : Byte) : Statement (.wrCmd a v c) := rfl
theorem bulkCmd : Statement .bulkCmd := rfl
theorem bulkResp (f : BulkFrame) : Statement (.bulkResp f) := rfl
theorem readReg (a : Byte) : Statement (.readReg a) := decodeWrite_ne_csrr _ _
theorem writeReg (a : Byte) : Statement (.writeReg a) := decodeWrite_ne_csrr _ _
theorem applySettings : Statement .applySettings := decodeWrite_ne_csrr _ _
theorem getReadings : Statement .getReadings := decodeWrite_ne_csrr _ _
theorem csrwCmd (w : Word64) : Statement (.csrwCmd w) := decodeWrite_ne_csrr _ _
theorem csrwArg (w : Word64) : Statement (.csrwArg w) := decodeWrite_ne_csrr _ _
theorem csrwCfg (w : Word64) : Statement (.csrwCfg w) := decodeWrite_ne_csrr _ _
theorem csrwCalDiv (w : Word64) : Statement (.csrwCalDiv w) := decodeWrite_ne_csrr _ _
theorem csrwCalRsh (w : Word64) : Statement (.csrwCalRsh w) := decodeWrite_ne_csrr _ _
theorem csrwRefused (idx : Byte) (w : Word64) : Statement (.csrwRefused idx w) := decodeWrite_ne_csrr _ _
theorem csrr (idx : Byte) : Statement (.csrr idx) := rfl

end Sys2Proof.Laws.EncodedForm
end

