-- ==== Sys2Proof/Laws/Sequencer.lean ====
section
/-! SUPPORT. For the sequencer's step, the wire frames and the step of the machine, once, what each can do. -/

namespace Sys2Proof.Machine

@[simp] theorem atSteps_atSteps (st st' : List SeqStep) (t t' : Txn) (s : State) :
    atSteps st' t' (atSteps st t s) = atSteps st' t' s := rfl
@[simp] theorem toIdle_atSteps (st : List SeqStep) (t : Txn) (s : State) : toIdle (atSteps st t s) = toIdle s := rfl
@[simp] theorem fail_atSteps (k : ErrKind) (st : List SeqStep) (t : Txn) (s : State) :
    fail k (atSteps st t s) = atSteps st t (fail k s) := rfl
@[simp] theorem overlaidMode_atSteps (m : Word24) (st : List SeqStep) (t : Txn) (s : State) :
    overlaidMode m (atSteps st t s) = overlaidMode m s := rfl

/-- The transport does not see where the sequencer stands: `SEND_FRAME`. -/
theorem sendFrame_atSteps (f : List Byte) (st : List SeqStep) (t : Txn) (s : State) :
    sendFrame f (atSteps st t s) = ((sendFrame f s).1, atSteps st t (sendFrame f s).2) := rfl

/-- The transport does not see where the sequencer stands: `RxRecv`. -/
theorem rxRecv_atSteps (n : Nat) (st : List SeqStep) (t : Txn) (s : State) :
    rxRecv n (atSteps st t s) = ((rxRecv n s).1, atSteps st t (rxRecv n s).2) := rfl

/-- `COMMIT` does not see where the sequencer stands. -/
theorem commit_atSteps (f : BulkFields) (ra : Word24) (st : List SeqStep) (t : Txn) (s : State) :
    commit f ra (atSteps st t s) = atSteps st t (commit f ra s) := rfl

/-- What no transaction, no sequencer step and no frame writes: the registers of the host, the inputs and the
replies. -/
def State.sameHostSide (s t : State) : Prop :=
  t.cmd = s.cmd ∧ t.ill = s.ill ∧ t.arg = s.arg ∧ t.cfg = s.cfg ∧ t.calDiv = s.calDiv ∧ t.calRsh = s.calRsh ∧
    t.inputs = s.inputs ∧ t.replies = s.replies

theorem sameHostSide_refl (s : State) : s.sameHostSide s := ⟨rfl, rfl, rfl, rfl, rfl, rfl, rfl, rfl⟩

/-- The end of a `READ_TXN` leaves the host's side alone. -/
theorem readDone_frame (up : List SeqStep) (x : Txn) (s t : State) (h : readDone up x s = some t) :
    s.sameHostSide t := by
  unfold readDone at h
  repeat' split at h
  all_goals first | (cases h; exact sameHostSide_refl s) | cases h

/-- `SEND_FRAME` leaves the host's side alone. -/
theorem sendFrame_frame {f : List Byte} {s s' : State} {ok : Bool} (h : sendFrame f s = (ok, s')) :
    s.sameHostSide s' := by
  obtain rfl : (sendFrame f s).2 = s' := by rw [h]
  exact sameHostSide_refl s

/-- `RxRecv` leaves the host's side alone. -/
theorem rxRecv_frame {n : Nat} {s s' : State} {bs : List Byte} (h : rxRecv n s = (bs, s')) : s.sameHostSide s' := by
  obtain rfl : (rxRecv n s).2 = s' := by rw [h]
  exact sameHostSide_refl s

/-- A sequencer step leaves the host's side alone. -/
theorem seqStep_frame (s t : State) (h : seqStep s = some t) : s.sameHostSide t := by
  unfold seqStep at h
  split at h
  · split at h
    · rename_i hs; have hf := sendFrame_frame hs; cases h; unfold readFailed; split <;> exact hf
    · rename_i hs; have hf := sendFrame_frame hs; cases h; exact hf
  · split at h
    rename_i hs
    have hf := rxRecv_frame hs
    split at h
    · cases h; unfold readFailed; split <;> exact hf
    · have hd := readDone_frame _ _ _ t h
      unfold State.sameHostSide at *
      simp_all
  all_goals repeat' split at h
  all_goals first
    | (cases h; exact sameHostSide_refl s)
    | (have hf := sendFrame_frame ‹_›; cases h; exact hf)
    | (have hf := rxRecv_frame ‹_›; cases h; exact hf)
    | cases h

/-- What the emission of a frame can do: the step it is due in, or nothing. -/
theorem emitFrame_cases (f : List Byte) (s : State) :
    (dueFrame s = some f ∧ emitFrame f s = advance s) ∨ (dueFrame s ≠ some f ∧ emitFrame f s = .next s) := by
  unfold emitFrame
  split
  · exact .inl ⟨‹_›, rfl⟩
  · exact .inr ⟨‹_›, rfl⟩

/-- At `IDLE` no frame is due (70_reset_and_hazards.md R271). -/
theorem dueFrame_idle {s : State} (h : s.seq = []) : dueFrame s = none := by simp [dueFrame, h]

/-- What the arrival of bytes can do: the receiving step takes them, or they stay in the receive buffer. -/
theorem arriveFrame_cases (bs : List Byte) (s : State) :
    (receiving s = true ∧
        arriveFrame bs s = advance { s with link := { s.link with arrivals := bs :: s.link.arrivals } }) ∨
      (receiving s = false ∧
        arriveFrame bs s = .next { s with link := { s.link with rxBuf := s.link.rxBuf ++ bs } }) := by
  unfold arriveFrame
  cases h : receiving s
  · exact .inr ⟨rfl, rfl⟩
  · exact .inl ⟨rfl, rfl⟩

/-- What `RD_RECV` does with bytes that arrive, the receive buffer empty: the first four are checked as the answer to the
command sent, and the others stay in the buffer. -/
theorem arriveFrame_rdRecv (s : State) (t : Txn) (bs : List Byte) (up : List SeqStep) (ht : s.txn = some t)
    (hb : s.link.rxBuf = []) (hs : s.seq = up ++ [.rdRecv]) :
    arriveFrame bs s =
      match decRd (t.sent.getD 1 0) (bs.take 4) with
      | .bad k =>
        .next (readFailed up.reverse k { s with
          link := { s.link with rxBuf := bs.drop 4, log := s.link.log ++ [.recv 4 500 (bs.take 4)] } })
      | .ok v =>
        match readDone up.reverse { t with readBack := v } { s with
          link := { s.link with rxBuf := bs.drop 4, log := s.link.log ++ [.recv 4 500 (bs.take 4)] } } with
        | some u => .next u
        | none => .fault .sequencerIllegal := by
  have hr : receiving s = true := by simp [receiving, hs]
  simp only [arriveFrame, hr, if_true, advance, seqStep, hs, ht, List.reverse_append, List.reverse_cons,
    List.reverse_nil, List.nil_append, List.cons_append, rxRecv, received, nextArrivals, hb, Config.rdRespLen,
    Config.rxTimeoutMs, List.tail_cons]
  cases decRd (t.sent.getD 1 0) (bs.take 4) <;> rfl

/-- Any bytes from the chip, and a frame event whose bytes are none of the five frames, arrive on the link. -/
theorem step_bytes {s : State} {bs : List Byte} {why : DecodeError} {rest : List Input}
    (h : s.inputs = .arrive bs :: rest ∨ (s.inputs = .event (.frame bs) :: rest ∧ decodeFrame bs = .error why)) :
    step s = arriveFrame bs { s with inputs := rest } := by
  rcases h with h | ⟨h, hd⟩
  · simp [step, portStep, takenInput, h, runInput]
  · simp [step, portStep, takenInput, h, isHostAccess, runInput, runEvent, decode, hd, linkBytes]

/-- What a step of the machine can do: take the next input, run one step of the running command, or wait at
`IDLE`. -/
theorem step_cases (s : State) :
    (∃ inp rest, takenInput s = some (inp, rest) ∧ step s = runInput inp { s with inputs := rest }) ∨
      (takenInput s = none ∧ s.seq = [] ∧ step s = .next s) ∨
      (takenInput s = none ∧ s.seq ≠ [] ∧ step s = advance { s with inputs := tick s.inputs }) := by
  rcases h : takenInput s with _ | ⟨inp, rest⟩
  · by_cases hs : s.seq = []
    · exact .inr (.inl ⟨rfl, hs, by simp [step, portStep, h, hs]⟩)
    · exact .inr (.inr ⟨rfl, hs, by simp [step, portStep, h, hs]⟩)
  · exact .inl ⟨inp, rest, rfl, by simp [step, portStep, h]⟩

end Sys2Proof.Machine
end

