-- ==== Sys2Proof/Tests/Slice0.lean ====
section
/-! SUPPORT. Tests. Expected values come from the vectors of 95_test_vectors.md or from the spec's encodings, as each
docstring says; a `witness_` theorem shows states and operands that meet the hypotheses of the obligation it names. -/

namespace Sys2Proof.Tests

open Sys2Proof Sys2Proof.Machine

/-! ## Helpers -/

/-- The outcome is a next state with the property `p`. -/
def nextHas (o : Host.Outcome State Fault Refusal) (p : State → Bool) : Bool :=
  match o with
  | .next t => p t
  | .fault _ => false
  | .refused _ => false

/-- The reset state with the answers of the transport scripted. -/
def scripted (as : List Bool) (ar : List (List Byte)) : State :=
  { State.reset with link := { rxBuf := [], sendAnswers := as, arrivals := ar, log := [] } }

/-- A state in the middle of a command: `SEQ` at `st` for the register `a`, the command frame `f` sent. -/
def midway (st : List SeqStep) (a : Byte) (f : List Byte) (as : List Bool) (ar : List (List Byte)) : State :=
  atSteps st { startTxn a 0 with sent := f } (scripted as ar)

/-- The frames sent so far, with their answers. -/
def sends (s : State) : List (List Byte × Bool) :=
  s.link.log.filterMap fun c => match c with
    | .send f ok => some (f, ok)
    | _ => none

/-- The fields of the fixture `BULK_A` (95_test_vectors.md section 1) with checksum byte `c`. -/
def bulkA (c : Byte) : BulkFrame where
  header := 0x55
  iFast := 0x001000
  i := 0x0F4240
  u7 := 0
  v := 0x013880
  u13 := 0
  p := 0x002710
  u19 := 0
  cnt := 0x000064
  u25 := 0
  tInt := 0x000200
  tExt := 0
  cksum := c

/-- The bytes of `BULK_A` as 95_test_vectors.md section 1 prints them. -/
def bulkABytes : List Byte :=
  [0x55, 0x00, 0x10, 0x00, 0x40, 0x42, 0x0F, 0x00, 0x00, 0x00, 0x80, 0x38, 0x01, 0x00, 0x00, 0x00, 0x10, 0x27,
   0x00, 0x00, 0x00, 0x00, 0x64, 0x00, 0x00, 0x00, 0x00, 0x00, 0x00, 0x02, 0x00, 0x00, 0x00, 0x00, 0x5B]

/-! ## Well-formedness: each check refuses an ill-formed term -/

theorem test_wf_rdCmd : (Instr.rdCmd 0xAA).wellFormed = false ∧ (Instr.rdCmd 0xAB).wellFormed = true := by decide
theorem test_wf_wrCmd :
    (Instr.wrCmd 0x18 0x123456 0xA4).wellFormed = false ∧ (Instr.wrCmd 0x18 0x123456 0xA3).wellFormed = true := by decide
theorem test_wf_csrwCmd : (Instr.csrwCmd 0x0C01).wellFormed = false ∧ (Instr.csrwCmd 0x0103).wellFormed = true := by decide
theorem test_wf_csrwRefused :
    (Instr.csrwRefused 0x05 0).wellFormed = false ∧ (Instr.csrwRefused 0x0F 0).wellFormed = true := by decide

/-! ## Decoding of words written out from 30_encoding.md R72 to R76, R81 and 10_state.md R22 -/

theorem test_decode_rdCmd : decode (.frame [0x58, 0x18]) = .ok (.rdCmd 0x18) := by decide
theorem test_decode_rdResp : decode (.frame [0x56, 0x34, 0x12, 0xF3]) = .ok (.rdResp 0x123456 0xF3) := by decide
theorem test_decode_wrCmd :
    decode (.frame [0xA8, 0x18, 0x56, 0x34, 0x12, 0xA3]) = .ok (.wrCmd 0x18 0x123456 0xA3) := by decide
theorem test_decode_bulkCmd : decode (.frame [0x58, 0xAA]) = .ok .bulkCmd := by decide
theorem test_decode_bulkResp : decode (.frame bulkABytes) = .ok (.bulkResp (bulkA 0x5B)) := by decide
theorem test_decode_readReg : decode (.hostWrite 0x00 0x0000000000000C01) = .ok (.readReg 0x0C) := by decide
theorem test_decode_writeReg : decode (.hostWrite 0x00 0x0000000000001802) = .ok (.writeReg 0x18) := by decide
theorem test_decode_applySettings : decode (.hostWrite 0x00 0x0000000000000003) = .ok .applySettings := by decide
theorem test_decode_getReadings : decode (.hostWrite 0x00 0x0000000000000004) = .ok .getReadings := by decide
theorem test_decode_csrwCmd : decode (.hostWrite 0x00 0x0000000000010001) = .ok (.csrwCmd 0x10001) := by decide
theorem test_decode_csrwArg : decode (.hostWrite 0x03 0x100) = .ok (.csrwArg 0x100) := by decide
theorem test_decode_csrwCfg : decode (.hostWrite 0x05 0x39) = .ok (.csrwCfg 0x39) := by decide
theorem test_decode_csrwCalDiv :
    decode (.hostWrite 0x06 0x40AF400000000000) = .ok (.csrwCalDiv 0x40AF400000000000) := by decide
theorem test_decode_csrwCalRsh :
    decode (.hostWrite 0x07 0x3F50624DD2F1A9FC) = .ok (.csrwCalRsh 0x3F50624DD2F1A9FC) := by decide
theorem test_decode_csrwRefused : decode (.hostWrite 0x08 0) = .ok (.csrwRefused 0x08 0) := by decide
theorem test_decode_csrr : decode (.hostRead 0x0F) = .ok (.csrr 0x0F) := by decide
theorem test_decode_length : decode (.frame [0x58, 0x18, 0x00]) = .error .frameLength := by decide
theorem test_decode_header : decode (.frame [0x59, 0x18]) = .error .header := by decide

/-- Words numbered as opcode_table.json numbers them: the fixed bits of a row, its fields zero or as written. -/
theorem test_table_words :
    decodeTableWord 16 0x5818 = some (.rdCmd 0x18) ∧ decodeTableWord 16 22698 = some .bulkCmd ∧
    decodeTableWord 32 0x563412F3 = some (.rdResp 0x123456 0xF3) ∧
    decodeTableWord 48 0xA818563412A3 = some (.wrCmd 0x18 0x123456 0xA3) ∧
    decodeTableWord 64 0x1802 = some (.writeReg 0x18) ∧ decodeTableWord 8 0x05 = some (.csrwCfg 0) ∧
    decodeTableWord 8 0x0F = some (.csrwRefused 0x0F 0) ∧ decodeTableWord 24 0 = none := by decide

/-- A placed word runs as the first instruction after reset. -/
theorem test_placed_word :
    nextHas (step (State.reset.withFetchWord 8 0x05)) (fun t => t.inputs == [] && !t.ill) = true ∧
    nextHas (step (State.reset.withFetchWord 8 0x0F)) (fun t => t.ill) = true := by decide

/-! ## Functional units -/

/-- 95_test_vectors.md 3.1. -/
theorem test_checksum :
    cksum [0xA8, 0x1A, 0x55, 0x00, 0x00] = 0xE8 ∧ cksum [0x58, 0x0C, 0xC8, 0x00, 0x00] = 0xD3 ∧
    cksum (List.replicate 256 0x01) = 0xFF ∧ cksum (0x58 :: List.replicate 34 0xFF) = 0xC9 := by
  decide +kernel

/-- 95_test_vectors.md 3.2, `DEC_RD`: the same bytes are valid for one address only. -/
theorem test_decRd :
    decRd 0x18 [0x56, 0x34, 0x12, 0xF3] = .ok 0x123456 ∧ decRd 0x0C [0x56, 0x34, 0x12, 0xF3] = .bad .readChecksum ∧
    decRd 0x18 [0x56, 0x34, 0x12] = .bad .readLength ∧ decRd 0x0C [0x88, 0x13, 0x00, 0x00] = .ok 0x001388 := by decide

/-- 95_test_vectors.md 3.2, `ENC_WR`. -/
theorem test_encWr :
    encWr 0x1A 0x123456 = [0xA8, 0x1A, 0x56, 0x34, 0x12, 0xA1] ∧
    encWr 0xFF 0xFFFFFF = [0xA8, 0xFF, 0xFF, 0xFF, 0xFF, 0x5B] := by decide

/-- 95_test_vectors.md 3.2, `DEC_BULK`: `BULK_A`, `BULK_A_H0` (another header), `BULK_A_BAD`, `BULK_A_SHORT`. -/
theorem test_decBulk :
    decBulk bulkABytes = .ok (fieldsOf (bulkA 0x5B)) ∧
    decBulk (0x00 :: (bulkABytes.drop 1).take 33 ++ [0xB0]) = .ok (fieldsOf (bulkA 0x5B)) ∧
    decBulk (bulkABytes.take 34 ++ [0x5C]) = .bad .readChecksum ∧
    decBulk (bulkABytes.take 34) = .bad .readLength := by decide

/-- 95_test_vectors.md 3.3, `PACK`: clamped, whole register, offset 32, clamped to one bit. -/
theorem test_pack :
    pack 0x00000000 30 4 0xF = 0xC0000000 ∧ pack 0x00000000 0 255 0xFFFFFFFF = 0xFFFFFFFF ∧
    pack 0x12345678 32 4 0xF = 0x12345678 ∧ pack 0x00000000 31 2 3 = 0x80000000 ∧
    pack 0x00ABCDEF 16 2 2 = 0x00AACDEF ∧ field 0x0000F500 8 4 = 5 := by decide

/-- 95_test_vectors.md 3.3, `MODE_OVERLAY` under `P_ref`. -/
theorem test_modeOverlay :
    modeOverlay pRef 0 0x000000 0x39 = 0x090300 ∧ modeOverlay pRef 0 0xFFFFFF 0x00 = 0xF0FCFF ∧
    modeOverlay pRef 0 0xFFFFFF 0x3A = 0xFAFFFF ∧ modeOverlay pRef 0 0x123456 0x25 = 0x153656 := by decide

/-- 43_scaler.md R172: the constants of the reference datapath. -/
theorem test_reference_constants :
    kv64 = 0x3E505CA0FAB6A82C ∧ ki64 = 0x3E30254C59643CB7 ∧ kp64 = 0x3DF9326D797513C0 ∧
    ke64 = 0x3DC77C3BFC3D3F03 ∧ ta64 = 0x3FD8492492492492 := by decide +kernel

/-- 95_test_vectors.md 3.4: bulk-field conversions and the temperature. -/
theorem test_reference_scaler :
    refV 80000 0x40AF400000000000 = 0x4013813C12FFB078 ∧ refI 1000000 0x3F50624DD2F1A9FC = 0x400E12DE2FB0F69E ∧
    refP 10000 0x40AF400000000000 0x3F50624DD2F1A9FC = 0x402D55493D312517 ∧
    refE 100 0x40AF400000000000 0x3F50624DD2F1A9FC = 0x3F917F76B0CA3146 ∧ refT 512 = 0x4044000000000000 := by
  decide +kernel

/-- 95_test_vectors.md 3.4: phase angle and power factor; bits 23:16 of the register do not matter. -/
theorem test_reference_angle :
    refAngle (angleBits 0xAB00C8) false = 0x400CCCCCCCCCCCCD ∧ refAngle 0x00C8 true = 0x401147AE147AE148 ∧
    refPf 0x00C8 false = 0x3FEFEFD5BFE443FE ∧ refPf 0x00C8 true = 0x3FEFE8B9C8311BF5 := by decide +kernel

/-- 43_scaler.md R178: 512 is exactly 40 degrees, and an odd value is not rounded down. -/
theorem test_temperature : scaleTExact 512 = 40 ∧ scaleTExact 1 = -(56953125 / 1000000) := by
  decide +kernel

/-! ## Host accesses (95_test_vectors.md 3.5), each from reset -/

theorem test_csrwArg :
    nextHas (exec (.csrwArg 0xFFFFFFFF12345678) State.reset) (fun t => t.arg == 0x345678 && !t.ill) = true := by decide
theorem test_csrwCfg_accepted :
    nextHas (exec (.csrwCfg 0xFFFFFFFFFFFFFFF9) State.reset) (fun t => t.cfg == 0x39 && !t.ill) = true := by decide
theorem test_csrwCfg_refused :
    nextHas (exec (.csrwCfg 0x0C) State.reset) (fun t => t.cfg == 0 && t.ill) = true := by decide
theorem test_csrwCalDiv_refused :
    nextHas (exec (.csrwCalDiv 0x7FF0000000000000) State.reset) (fun t => t.calDiv == calOne && t.ill) = true ∧
    nextHas (exec (.csrwCalDiv 0xBFF0000000000000) State.reset) (fun t => t.calDiv == calOne && t.ill) = true := by decide
theorem test_csrwCalRsh :
    nextHas (exec (.csrwCalRsh 0x0000000000000001) State.reset) (fun t => t.calRsh == 1 && !t.ill) = true ∧
    nextHas (exec (.csrwCalRsh 0x8000000000000000) State.reset) (fun t => t.calRsh == calOne && t.ill) = true := by decide
theorem test_csrwCmd_illegal :
    nextHas (exec (.csrwCmd 0x0103) State.reset) (fun t => t.ill && t.cmd == 0 && t.link.log == []) = true := by decide
theorem test_csrwRefused :
    nextHas (exec (.csrwRefused 0x12 0) State.reset) (fun t => t.ill && t.raw.v == 0) = true := by decide
theorem test_csrr :
    nextHas (exec (.csrr 0x06) State.reset) (fun t => t.replies == [0x3FF0000000000000]) = true ∧
    nextHas (exec (.csrr 0x80) (refuseWrite State.reset)) (fun t => t.replies == [0] && t.ill) = true := by decide

/-! ## Host commands (95_test_vectors.md 3.6 and programs P1 to P3) -/

theorem test_readReg :
    nextHas (exec (.readReg 0x0C) (scripted [true] [[0xEF, 0xCD, 0xAB, 0x34]]))
      (fun t => t.result == 0xABCDEF && t.err == .none && t.cmd == 0x0C01) = true ∧
    nextHas (exec (.readReg 0x0C) (scripted [true] [[0xEF, 0xCD, 0xAB, 0x35]]))
      (fun t => t.result == 0 && t.err == .readChecksum) = true := by decide

/-- `READ_REG 0xAA`: the first four bytes of `BULK_A` fail the check and 31 stay in the buffer. -/
theorem test_readReg_bulk_address :
    nextHas (exec (.readReg 0xAA) (scripted [true] [bulkABytes]))
      (fun t => t.err == .readChecksum && t.link.rxBuf.length == 31) = true := by decide

theorem test_writeReg :
    nextHas (exec (.writeReg 0x18) { scripted [true, true, true, false] [[0x00, 0x01, 0x00, 0x8E]] with arg := 0x100 })
      (fun t => t.err == .none && sends t == [([0xA8, 0x1A, 0x55, 0x00, 0x00, 0xE8], true),
        ([0xA8, 0x18, 0x00, 0x01, 0x00, 0x3E], true), ([0x58, 0x18], true),
        ([0xA8, 0x1A, 0x00, 0x00, 0x00, 0x3D], false)]) = true := by decide
theorem test_writeReg_verify :
    nextHas (exec (.writeReg 0x18) { scripted [true, true, true] [[0x00, 0x02, 0x00, 0x8D]] with arg := 0x100 })
      (fun t => t.err == .writeVerify && (sends t).length == 3) = true ∧
    nextHas (exec (.writeReg 0x1A) { scripted [true] [] with arg := 0x123456 })
      (fun t => t.err == .none && sends t == [([0xA8, 0x1A, 0x56, 0x34, 0x12, 0xA1], true)]) = true := by decide

/-- The mode register cannot be read: nothing is written. -/
theorem test_applySettings :
    nextHas (exec .applySettings (scripted [true] [[0x00, 0x00, 0x00]]))
      (fun t => t.err == .readLength && sends t == [([0x58, 0x18], true)]) = true := by decide

theorem test_getReadings :
    nextHas (exec .getReadings (scripted [true, true] [bulkABytes, [0xC8, 0x00, 0x00, 0xD3]]))
      (fun t => t.err == .none && t.snapValid && t.raw == fieldsOf (bulkA 0x5B) && t.angleRaw == 0x0000C8) = true := by
  decide
theorem test_getReadings_short :
    nextHas (exec .getReadings (scripted [true] [bulkABytes.take 34]))
      (fun t => t.err == .readLength && !t.snapValid && sends t == [([0x58, 0xAA], true)]) = true := by decide

/-! ## Frames and steps -/

theorem test_rdCmd :
    nextHas (exec (.rdCmd 0x18) (scripted [false] [])) (fun t => t.err == .none && sends t == []) = true ∧
    nextHas (exec (.rdCmd 0x18) (midway [.rdSend] 0x18 [] [true] [])) (fun t => t.seq == [.rdRecv]) = true := by decide
theorem test_rdResp :
    nextHas (exec (.rdResp 0x123456 0xF3) (midway [.rdRecv] 0x18 [0x58, 0x18] [] []))
      (fun t => t.seq == [] && t.result == 0x123456) = true ∧
    nextHas (exec (.rdResp 0x123456 0xF3) State.reset) (fun t => t.link.rxBuf.length == 4) = true := by decide
theorem test_wrCmd :
    nextHas (exec (.wrCmd 0x18 0 0x3F) (midway [.wrWrite] 0x18 [] [true] [])) (fun t => t.seq == [.wrVerify]) = true ∧
    nextHas (exec (.wrCmd 0x1A 0 0x3D) (midway [.wrWrite] 0x1A [] [true] [])) (fun t => t.seq == []) = true := by decide
theorem test_bulkCmd :
    nextHas (exec .bulkCmd (midway [.grSend] 0x0C [] [true] [])) (fun t => t.seq == [.grRecv]) = true := by decide
theorem test_bulkResp :
    nextHas (exec (.bulkResp (bulkA 0x5B)) (midway [.grRecv] 0x0C [0x58, 0xAA] [] [])) (fun t => t.seq == [.grAngle])
      = true ∧
    nextHas (exec (.bulkResp (bulkA 0x5C)) (midway [.grRecv] 0x0C [0x58, 0xAA] [] []))
      (fun t => t.seq == [] && t.err == .readChecksum) = true := by decide

/-- 70_reset_and_hazards.md R273: a reset in the middle of a write ends it at once. -/
theorem test_reset_midway :
    nextHas (step { midway [.asWrite, .wrVerify] 0x18 [] [] [] with inputs := [.reset 0], cmd := 3, arg := 7 })
      (fun t => t.seq == [] && t.txn == none && t.cmd == 0 && t.arg == 0) = true := by decide

/-- 30_encoding.md R79: bytes that are no frame arrive; the receiving step finds them too short, else they stay in the
buffer. -/
theorem test_stray_bytes :
    nextHas (step { midway [.rdRecv] 0x18 [0x58, 0x18] [] [] with inputs := [.event (.frame [0x56, 0x34, 0x12])] })
      (fun t => t.seq == [] && t.err == .readLength) = true ∧
    nextHas (step { State.reset with inputs := [.event (.frame [0x56, 0x34, 0x12])] })
      (fun t => t.link.rxBuf == [0x56, 0x34, 0x12]) = true ∧
    nextHas (step { State.reset with inputs := [.arrive [0x58, 0x18]] }) (fun t => t.link.rxBuf == [0x58, 0x18])
      = true := by decide

/-! ## Witnesses -/

theorem witness_ChecksumIsComplementOfLowByte :
    byteSum [0xFF, 0x01] % 256 = 0 ∧ byteSum [0xFF] % 256 = 255 ∧ byteSum [0x01] % 256 = byteSum [0xFF, 0x02] % 256 := by
  decide
theorem witness_ChecksumClosure :
    unlockFrame.length = 6 ∧ unlockFrame.getD 0 0 = 0xA8 ∧ ([0x56, 0x34, 0x12, 0xF3] : List Byte).length = 4 ∧
    bulkABytes.length = 35 := by decide
theorem witness_ChecksumCheckDetectsSingleByteChange :
    (0x18 : Byte) ≠ 0x19 ∧ ckchk ([0x58] ++ 0x18 :: [0x56, 0x34, 0x12]) 0xF3 = true := by decide
theorem witness_ReadResponseCheck :
    ([0x56, 0x34, 0x12] : List Byte).length < 4 ∧ (0xF2 : Byte) ≠ cksum [0x58, 0x18, 0x56, 0x34, 0x12] := by decide
theorem witness_BulkResponseCheck :
    (bulkABytes.take 34).length < 35 ∧ bulkABytes.length = 35 ∧
    bulkABytes.getD 34 0 = cksum ([0x58] ++ bulkABytes.take 34) ∧
    (bulkABytes.take 34 ++ [0x5C]).getD 34 0 ≠ cksum ([0x58] ++ (bulkABytes.take 34 ++ [0x5C]).take 34) := by decide
theorem witness_PackerProperties :
    (31 < 32 ∧ 32 < 31 + 2) ∧ (7 < 8 ∨ 8 + effw 8 4 ≤ 7) ∧ 8 + effw 8 4 ≤ 12 ∧
    ∀ i, ¬ (16 ≤ i ∧ i < 16 + effw 16 2 ∧ 18 ≤ i ∧ i < 18 + effw 18 2) := by
  refine ⟨by decide, by decide, by decide, fun i h => ?_⟩
  have h16 : effw 16 2 = 2 := by decide
  omega
theorem witness_ModeOverlaySetsFourFields :
    pRef.legal = true ∧ (0xFFFFFF : Word32).toNat < 2 ^ 24 ∧ (0 < pRef.iFiltOff ∧ 20 ≥ pRef.vFiltOff + 2) ∧
    ((0x00 : BitVec 6).toNat % 4 = 0 ∧ (0x01 : BitVec 6).toNat % 4 = 1 ∧ (0x3E : BitVec 6).toNat % 4 = 2) ∧
    ((0x03 : BitVec 6).toNat / 4 % 4 = 0 ∧ (0x04 : BitVec 6).toNat / 4 % 4 = 1 ∧ (0x3B : BitVec 6).toNat / 4 % 4 = 2) :=
  by decide
theorem witness_ScalerRanges :
    calLegal 0x0000000000000001 = true ∧ calLegal 0x7FEFFFFFFFFFFFFF = true ∧
    scaleTExact 0 = -(400 / 7) ∧ scaleTExact 0xFFFFFF = 1426037675 / 448 := by
  refine ⟨by decide, by decide, by decide +kernel, by decide +kernel⟩
theorem witness_DecodeEncodeRoundTrip :
    (Instr.rdCmd 0xFF).wellFormed = true ∧ (Instr.csrwCmd 0x0005).wellFormed = true ∧
    (Instr.csrwRefused 0xFF 0).wellFormed = true := by decide
theorem witness_EncodeDecodeRoundTrip :
    decode (.frame unlockFrame) = .ok (.wrCmd 0x1A 0x55 0xE8) ∧
    decode (.frame [0xA8, 0x1A, 0x55, 0x00, 0x00, 0x00]) = .ok (.wrCmd 0x1A 0x55 0x00) ∧
    byteSum [0xA8, 0x1A, 0x55, 0x00, 0x00, 0x00] % 256 ≠ 255 := by decide
theorem witness_IllegalCommandRefused :
    illegalCmd 0x0000 = true ∧ illegalCmd 0x0005 = true ∧ illegalCmd 0x0103 = true ∧ illegalCmd 0x10001 = true := by decide
theorem witness_CommandDispatch :
    illegalCmd 0x10001 = true ∧ illegalCmd 0xFF01 = false ∧ illegalCmd 0x0002 = false ∧ illegalCmd 0x0003 = false ∧ illegalCmd 0x0004 = false := by
  decide
theorem witness_CfgWriteCompletes :
    (0x03 : Word64).toNat % 4 = 3 ∧ (0x0C : Word64).toNat / 4 % 4 = 3 ∧
    (0x3A : Word64).toNat % 4 ≠ 3 ∧ (0x3A : Word64).toNat / 4 % 4 ≠ 3 := by decide
theorem witness_CalibrationWriteCompletes :
    (f64Finite calOne = true ∧ 0 < f64Val calOne) ∧
    ¬ (f64Finite 0x7FF0000000000000 = true ∧ 0 < f64Val 0x7FF0000000000000) := by
  exact ⟨⟨by decide, by decide +kernel⟩, fun h => absurd h.1 (by decide)⟩
theorem witness_ReadOnlyWriteRefused :
    (0x01 : Byte) ≠ 0x00 ∧ (0x04 : Byte) ≠ 0x03 ∧ (0x04 : Byte) ≠ 0x05 ∧ (0x08 : Byte) ≠ 0x07 ∧
    csrWritable 0x01 = false ∧ csrWritable 0x04 = false ∧ csrWritable 0x08 = false ∧ csrWritable 0xFF = false := by decide
theorem witness_HostReadReturnsSlot : (0x0F : Byte) = 0x0F ∧ 0x18 ≤ (0x18 : Byte).toNat ∧ 0x18 ≤ (0xFF : Byte).toNat := by decide
theorem witness_ReadRegCompletes :
    (scripted [true] [readResponse 0x0C 0xABCDEF]).link.sendAnswers = [true] ∧
    (scripted [true] [readResponse 0x0C 0xABCDEF]).link.arrivals = readResponse 0x0C 0xABCDEF :: [] ∧
    readResponse 0x0C 0xABCDEF = [0xEF, 0xCD, 0xAB, 0x34] := by decide
theorem witness_WriteProtectRegisterCompletes :
    (scripted [true] []).link.sendAnswers = true :: [] ∧ (scripted [false] []).link.sendAnswers = false :: [] := by decide
theorem witness_WriteRegCompletes :
    (0x18 : Byte) ≠ 0x1A ∧ (scripted [true, true, true, false] [readResponse 0x18 0]).link.sendAnswers =
      true :: true :: true :: false :: [] ∧
    (scripted [true, true, true, false] [readResponse 0x18 0]).link.arrivals =
      readResponse 0x18 (scripted [true, true, true, false] [readResponse 0x18 0]).arg :: [] := by decide
theorem witness_WriteRegFailures :
    (0x1B : Byte) ≠ 0x1A ∧ ([0x00, 0x01] : List Byte).length ≤ 4 ∧ decRd 0x1B [0x00, 0x01] = .bad .readLength ∧
    decRd 0x1B [0x00, 0x01, 0x00, 0x00] = .bad .readChecksum ∧ (0x000200 : Word24) ≠ State.reset.arg ∧
    (scripted [false] []).link.sendAnswers = false :: [] ∧ (scripted [true, false] []).link.sendAnswers = true :: false :: [] ∧
    (scripted [true, true, false] []).link.sendAnswers = true :: true :: false :: [] ∧
    (scripted [true, true, true] [readResponse 0x1B 0x200]).link.sendAnswers = true :: true :: true :: [] ∧
    (scripted [true, true, true] [readResponse 0x1B 0x200]).link.arrivals = readResponse 0x1B 0x200 :: [] := by decide
theorem witness_RelockSentIffVerified :
    nextHas (exec (.writeReg 0x18) (scripted [true, true, true, true] [readResponse 0x18 0])) (fun t => t.err == .none)
      = true ∧
    nextHas (exec (.writeReg 0x18) (scripted [false] [])) (fun t => t.err == .writeSend) = true := by decide
theorem witness_ApplySettingsCompletes :
    (scripted [true, true, true, true, false] []).link.sendAnswers = true :: true :: true :: true :: false :: [] ∧
    ∃ m2, m2 = (modeOverlay Config.modeLayout.params Config.reservedFilterCode ((0 : Word24).zeroExtend 32)
        State.reset.cfg).extractLsb' 0 24 ∧
      (scripted [true, true, true, true, false] [readResponse 0x18 0, readResponse 0x18 m2]).link.arrivals =
        readResponse 0x18 0 :: readResponse 0x18 m2 :: [] := ⟨rfl, _, rfl, rfl⟩
theorem witness_ApplySettingsReadFailure :
    (scripted [true] [[0x00, 0x00, 0x00]]).link.sendAnswers = true :: [] ∧
    ([0x00, 0x00, 0x00] : List Byte).length ≤ 4 ∧ decRd 0x18 [0x00, 0x00, 0x00] = .bad .readLength ∧
    decRd 0x18 [0x00, 0x00, 0x00, 0x8E] = .bad .readChecksum := by decide
theorem witness_GetReadingsCompletes :
    bulkChecksumOk (bulkA 0x5B) ∧
    (scripted [true, true] [bulkRespBytes (bulkA 0x5B), readResponse 0x0C 0xC8]).link.sendAnswers = true :: true :: [] ∧
    (scripted [true, true] [bulkRespBytes (bulkA 0x5B), readResponse 0x0C 0xC8]).link.arrivals =
      bulkRespBytes (bulkA 0x5B) :: readResponse 0x0C 0xC8 :: [] := by
  unfold bulkChecksumOk; decide
theorem witness_GetReadingsFailures :
    (scripted [true, false] [bulkRespBytes (bulkA 0x5B)]).link.sendAnswers = true :: false :: [] ∧
    (scripted [true, true] [bulkRespBytes (bulkA 0x5B), []]).link.arrivals = bulkRespBytes (bulkA 0x5B) :: [] :: [] ∧
    bulkChecksumOk (bulkA 0x5B) ∧ (bulkABytes.take 34).length ≤ 35 ∧ decBulk (bulkABytes.take 34) = .bad .readLength ∧
    decBulk (bulkRespBytes (bulkA 0x5C)) = .bad .readChecksum ∧ decRd 0x0C [0xC8, 0x00, 0x00, 0xD4] = .bad .readChecksum
      := by
  unfold bulkChecksumOk; decide
theorem witness_SnapshotAllOrNothing :
    nextHas (exec .getReadings (scripted [false] [])) (fun t => t.err != .none) = true ∧
    nextHas (exec .getReadings (scripted [true, true] [bulkABytes, [0xC8, 0x00, 0x00, 0xD3]])) (fun t => t.err == .none)
      = true := by decide
theorem witness_SnapshotConformsToFormulas :
    calLegal State.reset.calDiv = true ∧ calLegal State.reset.calRsh = true ∧
    ∃ t, exec .getReadings (scripted [true, true] [bulkABytes, [0xC8, 0x00, 0x00, 0xD3]]) = .next t ∧ t.err = .none :=
  ⟨by decide, by decide, _, rfl, by decide⟩
theorem witness_ErrorKindsPerCommand :
    nextHas (exec (.readReg 0x1A) (scripted [false] [])) (fun t => t.err == .writeSend) = true ∧
    nextHas (exec (.writeReg 0x1A) (scripted [false] [])) (fun t => t.err == .writeSend) = true ∧
    nextHas (exec .getReadings (scripted [true] [[]])) (fun t => t.err == .readLength) = true := by decide
theorem witness_ReadingsDependOnFreqOnly :
    (0x1A : BitVec 6).getLsbD 5 = State.reset.cfg.getLsbD 5 ∧
    ∃ t, exec .getReadings (scripted [true, true] [bulkABytes, [0xC8, 0x00, 0x00, 0xD3]]) = .next t :=
  ⟨by decide, _, rfl⟩
theorem witness_NoLinkActivityOutsideCommands :
    illegalCmd 0x0C01 = false ∧
    nextHas (step { scripted [false] [] with inputs := [.event (.hostWrite 0x00 0x0C01)] })
      (fun t => t.link.log != [] && t.err != .none) = true ∧
    nextHas (step { State.reset with err := .writeSend, inputs := [.stepwise (.hostWrite 0x00 0x0C01)] })
      (fun t => t.link.log == [] && t.err == .none) = true ∧
    nextHas (step { State.reset with err := .writeSend, inputs := [.reset 1] }) (fun t => t.err == .none) = true := by
  decide
theorem witness_FramesEmittedInTransaction :
    (midway [.wrVerify, .rdSend] 0x18 [] [true] []).seq = [.wrVerify] ++ [.rdSend] ∧
    (midway [.rdSend] 0xFF [] [false] []).seq = [] ++ [.rdSend] ∧
    (midway [.grSend] 0x0C [] [true] []).seq = [.grSend] ∧
    (midway [.asWrite, .wrUnlock] 0x18 [] [false] []).seq = [.asWrite] ++ [.wrUnlock] ∧
    (midway [.asWrite, .wrWrite] 0x18 [] [true] []).seq = [.asWrite] ++ [.wrWrite] ∧
    (midway [.wrRelock] 0x1B [] [false] []).seq = [] ++ [.wrRelock] ∧
    (midway [.wrWrite] 0x1A [] [true] []).txn = some { startTxn 0x1A 0 with sent := [] } ∧
    (midway [.wrWrite] 0x1A [] [true] []).link.sendAnswers = true :: [] ∧
    (midway [.wrRelock] 0x1B [] [false] []).link.sendAnswers = false :: [] := by decide
theorem witness_FramesNotDueDoNothing :
    (0x3E : Byte) ≠ cksum ([0xA8, 0x18] ++ enc24 0) ∧ State.reset.seq = [] ∧
    dueFrame (midway [.rdRecv] 0x18 [0x58, 0x18] [] []) ≠ some (encWr 0x18 0) ∧
    dueFrame (midway [.rdSend] 0x18 [] [] []) ≠ some [0x58, 0x19] ∧
    dueFrame (midway [.rdSend] 0x18 [] [] []) ≠ some [0x58, 0xAA] := by decide
theorem witness_ReadResponseTaken :
    (midway [.rdRecv] 0x18 [0x58, 0x18] [] []).seq = [.rdRecv] ∧
    (midway [.rdRecv] 0x18 [0x58, 0x18] [] []).txn = some { startTxn 0x18 0 with sent := [0x58, 0x18] } ∧
    (midway [.rdRecv] 0x18 [0x58, 0x18] [] []).link.rxBuf = [] ∧
    (midway [.asWrite, .wrVerify, .rdRecv] 0x18 [0x58, 0x18] [] []).seq = [.asWrite] ++ [.wrVerify, .rdRecv] ∧
    (midway [.asRead, .rdRecv] 0x18 [0x58, 0x18] [] []).seq = [.asRead, .rdRecv] ∧
    (midway [.grAngle, .rdRecv] 0x0C [0x58, 0x0C] [] []).seq = [.grAngle, .rdRecv] ∧
    (0xF3 : Byte) = cksum ([0x58, 0x18] ++ enc24 0x123456) ∧ (0xF2 : Byte) ≠ cksum ([0x58, 0x18] ++ enc24 0x123456) :=
  by decide
theorem witness_BulkResponseTaken :
    (midway [.grRecv] 0x0C [0x58, 0xAA] [] []).seq = [.grRecv] ∧
    (midway [.grRecv] 0x0C [0x58, 0xAA] [] []).link.rxBuf = [] ∧
    bulkChecksumOk (bulkA 0x5B) ∧ ¬ bulkChecksumOk (bulkA 0x00) := by
  unfold bulkChecksumOk; decide
theorem witness_OtherBytesTaken :
    (midway [.asRead, .rdRecv] 0x18 [0x58, 0x18] [] []).seq = [.asRead] ++ [.rdRecv] ∧
    (midway [.rdRecv] 0xAA [0x58, 0xAA] [] []).txn = some { startTxn 0xAA 0 with sent := [0x58, 0xAA] } ∧
    (midway [.rdRecv] 0xAA [0x58, 0xAA] [] []).link.rxBuf = [] ∧
    enc24 0x100055 ++ [0x00] = (bulkRespBytes (bulkA 0x5B)).take 4 ∧
    nextHas (exec (.rdResp 0x100055 0x00) (midway [.rdRecv] 0xAA [0x58, 0xAA] [] [])) (fun t => t.err == .readChecksum)
      = true ∧
    (midway [.grRecv] 0x0C [0x58, 0xAA] [] []).seq = [.grRecv] ∧
    decodeFrame [] = .error .frameLength ∧ ([0x56, 0x34, 0x12] : List Byte).length < 4 ∧
    decodeFrame [0x56, 0x34, 0x12] = .error .frameLength ∧ (bulkABytes.take 34).length < 35 ∧
    decodeFrame (bulkABytes.take 34) = .error .frameLength := by decide
theorem witness_UnaskedFramesStayInBuffer :
    receiving State.reset = false ∧ receiving (midway [.rdSend] 0x18 [] [] []) = false ∧
    decodeFrame [0x59, 0x18] = .error .header := by decide
theorem witness_StepwiseCommandEqualsAtomic :
    (beginCommand (.readReg 0xAA) State.reset).isSome = true ∧ (beginCommand (.writeReg 0x1A) State.reset).isSome = true ∧
    (beginCommand .applySettings State.reset).isSome = true ∧ (beginCommand .getReadings State.reset).isSome = true := by
  decide
theorem witness_StepRunsDecodedInstruction :
    decode (.hostWrite 0x03 0x100) = .ok (.csrwArg 0x100) ∧ State.reset.seq = [] ∧ isHostAccess (.frame [0x58, 0x18]) = false ∧
    isHostAccess (.hostRead 0x01) = true ∧ (midway [.rdSend] 0x18 [] [true] []).seq ≠ [] ∧
    (seqStep (midway [.rdSend] 0x18 [] [true] [])).isSome = true := by decide
theorem witness_StepRunsSequencer :
    decode (.hostWrite 0x00 0x04) = .ok .getReadings ∧ (beginCommand .getReadings State.reset).isSome = true ∧
    (midway [.grSend] 0x0C [] [true] []).inputs = [] ∧ (seqStep (midway [.grSend] 0x0C [] [true] [])).isSome = true := by
  decide
theorem witness_PlacedWordRunsNext :
    decodeTableWord 64 0x1802 = some (.writeReg 0x18) ∧ State.reset.seq = [] ∧ State.reset.txn = none := by decide
theorem witness_ResetAbandonsCommand :
    (midway [.grRecv] 0x0C [0x58, 0xAA] [] [[]]).seq ≠ [] ∧
    (seqStep { midway [.grRecv] 0x0C [0x58, 0xAA] [] [[]] with inputs := [.reset 0] }).isSome = true := by decide
theorem witness_StepKeepsInvariants :
    State.reset.registersLegal ∧ State.reset.snapshotCoherent ∧ State.reset.seqLegal ∧ State.reset.linkLegal ∧
    ∃ t, step { State.reset with inputs := [.event (.hostRead 0x06)] } = .next t :=
  ⟨⟨.inl rfl, by decide, by decide, by decide⟩, .inl ⟨rfl, rfl, rfl, rfl⟩, rfl, ⟨rfl, by decide⟩, _, rfl⟩
theorem witness_StepKeepsSequencerLegal_midway :
    ({ midway [.asWrite, .wrVerify, .rdRecv] 0x18 [0x58, 0x18] [] [[]] with cmd := 0x03 } : State).seqLegal := by
  simp only [State.seqLegal, midway, atSteps, legalStacks]
  exact ⟨by decide, .asWrite, rfl, by decide, by unfold txnFits; decide⟩
theorem witness_SnapshotAndResultOnlyByTheirCommands :
    encode (.readReg 0x0C) = .hostWrite 0x00 0x0C01 ∧
    nextHas (exec (.readReg 0x0C) (scripted [true] [[0xEF, 0xCD, 0xAB, 0x34]])) (fun t => t.result != State.reset.result)
      = true ∧
    nextHas (exec .getReadings (scripted [true, true] [bulkABytes, [0xC8, 0x00, 0x00, 0xD3]]))
      (fun t => t.raw != State.reset.raw) = true := by decide
theorem witness_ConfigurationOnlyByHostWrites :
    nextHas (exec (.csrwCfg 0x01) State.reset) (fun t => t.cfg != State.reset.cfg) = true ∧
    nextHas (exec (.csrwCalDiv 1) State.reset) (fun t => t.calDiv != State.reset.calDiv) = true ∧
    nextHas (exec (.csrwCalRsh 1) State.reset) (fun t => t.calRsh != State.reset.calRsh) = true ∧
    nextHas (exec (.csrwArg 1) State.reset) (fun t => t.arg != State.reset.arg) = true := by decide
theorem witness_IllSetExactlyByRefusedWrites :
    encode (.csrwCfg 0x03) = .hostWrite 0x05 0x03 ∧
    nextHas (exec (.csrwCfg 0x03) State.reset) (fun t => t.ill) = true ∧
    nextHas (exec (.csrwCfg 0x02) (refuseWrite State.reset)) (fun t => !t.ill) = true := by decide

end Sys2Proof.Tests
end

namespace Sys2Proof.Machine

/-! # The state's invariants and what writes each register (10_state.md) -/

/-! ## Command words -/

/-- The fields of a command word (30_encoding.md R81): the opcode, the address, and reserved bits of 0. -/
@[simp] theorem cmdOpc_cmdWord (opc a : Byte) : cmdOpc (cmdWord opc a) = opc := by
  ext i hi
  have h64 : i < 64 := by omega
  simp [cmdOpc, cmdWord, h64, hi]

@[simp] theorem cmdAddr_cmdWord (opc a : Byte) : cmdAddr (cmdWord opc a) = a := by
  ext i hi
  have h64 : 8 + i < 64 := by omega
  simp [cmdAddr, cmdWord, h64, hi]

@[simp] theorem cmdReserved_cmdWord (opc a : Byte) : cmdReserved (cmdWord opc a) = 0 := by
  ext i hi
  simp [cmdReserved, cmdWord, BitVec.getLsbD_of_ge opc (16 + i) (by omega),
    BitVec.getLsbD_of_ge a (16 + i - 8) (by omega)]

/-! ## Host accesses -/

/-- The instruction is the host's command with the legal word `w`: the command's own row, or the write of `w` to `CMD`
(30_encoding.md R81, R82). -/
inductive RunsWord : Instr → Word64 → Prop
  | readReg (a : Byte) : RunsWord (.readReg a) (cmdWord opcReadReg a)
  | writeReg (a : Byte) : RunsWord (.writeReg a) (cmdWord opcWriteReg a)
  | applySettings : RunsWord .applySettings (cmdWord opcApplySettings 0)
  | getReadings : RunsWord .getReadings (cmdWord opcGetReadings 0)
  | csrwCmd {w : Word64} (hw : illegalCmd w = false) : RunsWord (.csrwCmd w) w

/-- The instruction is a refused host write (60_exceptions.md R248). -/
def refusedWrite : Instr → Prop
  | .csrwCmd w => illegalCmd w = true
  | .csrwCfg w => cfgLegal (w.extractLsb' 0 6) = false
  | .csrwCalDiv w => calLegal w = false
  | .csrwCalRsh w => calLegal w = false
  | .csrwRefused _ _ => True
  | _ => False

/-- A word that an instruction runs as a host command is legal. -/
theorem RunsWord.legal {i : Instr} {w : Word64} (h : RunsWord i w) : illegalCmd w = false := by
  cases h with
  | csrwCmd hw => exact hw
  | _ => simp [illegalCmd]

/-- A host command is no refused write. -/
theorem RunsWord.not_refusedWrite {i : Instr} {w : Word64} (h : RunsWord i w) : ¬ refusedWrite i := by
  cases h <;> simp_all [refusedWrite]

/-- `HC_READ_REG` writes `RESULT`, `ERR` and the link, beside what the acceptance writes. -/
theorem hcReadReg_acceptCommand (a : Byte) (w : Word64) (s : State) :
    ∃ v k l, hcReadReg a (acceptCommand w s) = { s with result := v }.commandDone w k l := by
  obtain ⟨k, l, h, -, -⟩ := readTxn_frame a (acceptCommand w s)
  exact ⟨_, k, l, by rw [hcReadReg, h]; rfl⟩

/-- `HC_WRITE_REG` writes `ERR` and the link. -/
theorem hcWriteReg_acceptCommand (a : Byte) (w : Word64) (s : State) :
    ∃ k l, hcWriteReg a (acceptCommand w s) = s.commandDone w k l := by
  obtain ⟨k, l, h, -⟩ := writeTxn_frame a (acceptCommand w s).arg (acceptCommand w s)
  exact ⟨k, l, by rw [hcWriteReg, h]; rfl⟩

/-- `HC_APPLY_SETTINGS` writes `ERR` and the link. -/
theorem hcApplySettings_acceptCommand (w : Word64) (s : State) :
    ∃ k l, hcApplySettings (acceptCommand w s) = s.commandDone w k l := by
  obtain ⟨k, l, h, -⟩ := applyTxn_frame (acceptCommand w s)
  exact ⟨k, l, by rw [hcApplySettings, h]; rfl⟩

/-- A `READ_TXN` that gives no value has written an error kind. -/
theorem readTxn_none_err {a : Byte} {s s' : State} (h : readTxn a s = (none, s')) : s'.err ≠ .none := by
  obtain ⟨ok, bs, -, -, hr⟩ := readTxn_spec a s
  rw [hr] at h
  cases ok with
  | false => cases h; simp
  | true =>
    cases hd : decRd a (bs.take 4) with
    | ok v => simp [hd] at h
    | bad k =>
      simp only [hd, Bool.true_eq_false, if_false] at h
      cases h
      rcases decRd_bad hd with rfl | rfl <;> simp

/-- A `GET_TXN` that fails has written an error kind. -/
theorem getTxn_false_err {s s' : State} (h : getTxn s = (false, s')) : s'.err ≠ .none := by
  rcases hs : sendFrame encBulk s with ⟨_ | _, s₁⟩
  · simp only [getTxn, hs] at h
    cases h; simp
  · rw [getTxn_sent s s₁ hs] at h
    cases hd : decBulk (rxRecv 35 s₁).1 with
    | bad k =>
      simp only [hd] at h
      cases h
      rcases decBulk_bad hd with rfl | rfl <;> simp
    | ok f =>
      rcases hr : readTxn Config.angleAddr (rxRecv 35 s₁).2 with ⟨_ | ra, s₂⟩ <;>
        simp only [hd, hr] at h <;> cases h
      exact readTxn_none_err hr

/-- `HC_GET_READINGS` fails with an error kind and writes nothing else but the link, or succeeds with one commit. -/
theorem hcGetReadings_acceptCommand (w : Word64) (s : State) :
    (∃ k l, k ≠ .none ∧ hcGetReadings (acceptCommand w s) = s.commandDone w k l) ∨
      ∃ f ra l, hcGetReadings (acceptCommand w s) = (commit f ra s).commandDone w .none l := by
  rcases getTxn_cases (acceptCommand w s) with ⟨k, l, h⟩ | ⟨f, ra, l, h⟩
  · exact .inl ⟨k, l, getTxn_false_err h, by rw [hcGetReadings, h]; rfl⟩
  · exact .inr ⟨f, ra, l, by rw [hcGetReadings, h]; rfl⟩

/-- What a host access can do to the state: a refused write sets `ILL` (60_exceptions.md R248), a read returns a slot,
a register write is accepted, and a command ends with its writes (44_sequencer.md R208 to R211). -/
inductive HostEffect (s : State) : Instr → State → Prop
  | refused {i : Instr} (hi : refusedWrite i) : HostEffect s i (refuseWrite s)
  | read (idx : Byte) : HostEffect s (.csrr idx) { s with replies := s.replies ++ [csrRead idx s] }
  | arg (w : Word64) : HostEffect s (.csrwArg w) { accepted s with arg := w.extractLsb' 0 24 }
  | cfg (w : Word64) (hw : cfgLegal (w.extractLsb' 0 6) = true) :
      HostEffect s (.csrwCfg w) { accepted s with cfg := w.extractLsb' 0 6 }
  | calDiv (w : Word64) (hw : calLegal w = true) : HostEffect s (.csrwCalDiv w) { accepted s with calDiv := w }
  | calRsh (w : Word64) (hw : calLegal w = true) : HostEffect s (.csrwCalRsh w) { accepted s with calRsh := w }
  | errOnly {i : Instr} {w : Word64} (hi : RunsWord i w) (k : ErrKind) (l : Link) :
      HostEffect s i (s.commandDone w k l)
  | readReg {i : Instr} {w : Word64} (hi : RunsWord i w) (ho : cmdOpc w = opcReadReg) (v : Word24) (k : ErrKind)
      (l : Link) : HostEffect s i ({ s with result := v }.commandDone w k l)
  | readings {i : Instr} {w : Word64} (hi : RunsWord i w) (ho : cmdOpc w = opcGetReadings) (f : BulkFields)
      (ra : Word24) (l : Link) : HostEffect s i ((commit f ra s).commandDone w .none l)

section Commands
/-! Each command, run by any instruction that carries its word. -/

variable {i : Instr} {w : Word64} (hi : RunsWord i w) (s : State)
include hi

theorem hostEffect_hcReadReg (ho : cmdOpc w = opcReadReg) (a : Byte) :
    HostEffect s i (hcReadReg a (acceptCommand w s)) := by
  obtain ⟨v, k, l, h⟩ := hcReadReg_acceptCommand a w s
  exact h ▸ .readReg hi ho v k l

theorem hostEffect_hcWriteReg (a : Byte) : HostEffect s i (hcWriteReg a (acceptCommand w s)) := by
  obtain ⟨k, l, h⟩ := hcWriteReg_acceptCommand a w s
  exact h ▸ .errOnly hi k l

theorem hostEffect_hcApplySettings : HostEffect s i (hcApplySettings (acceptCommand w s)) := by
  obtain ⟨k, l, h⟩ := hcApplySettings_acceptCommand w s
  exact h ▸ .errOnly hi k l

theorem hostEffect_hcGetReadings (ho : cmdOpc w = opcGetReadings) :
    HostEffect s i (hcGetReadings (acceptCommand w s)) := by
  obtain ⟨k, l, -, h⟩ | ⟨f, ra, l, h⟩ := hcGetReadings_acceptCommand w s
  · exact h ▸ .errOnly hi k l
  · exact h ▸ .readings hi ho f ra l

end Commands

/-- A legal word has one of the four opcodes (30_encoding.md R82). -/
theorem cmdOpc_of_legal {w : Word64} (h : illegalCmd w = false) :
    cmdOpc w = opcReadReg ∨ cmdOpc w = opcWriteReg ∨ cmdOpc w = opcApplySettings ∨ cmdOpc w = opcGetReadings := by
  simp only [illegalCmd, Bool.or_eq_false_iff, Bool.not_eq_false', Bool.or_eq_true, Bool.and_eq_true, beq_iff_eq] at h
  tauto

/-- The write of a word to `CMD` is refused or runs the command the word names. -/
theorem hostEffect_hostWriteCmd (w : Word64) (s : State) : HostEffect s (.csrwCmd w) (hostWriteCmd w s) := by
  unfold hostWriteCmd
  split
  case isTrue hw => exact .refused hw
  case isFalse hw =>
    have hi : RunsWord (.csrwCmd w) w := .csrwCmd (by simpa using hw)
    split
    case isTrue ho => exact hostEffect_hcReadReg hi s ho _
    case isFalse hread =>
      split
      case isTrue => exact hostEffect_hcWriteReg hi s _
      case isFalse hwrite =>
        split
        case isTrue => exact hostEffect_hcApplySettings hi s
        case isFalse happly =>
          have ho := (((cmdOpc_of_legal hi.legal).resolve_left hread).resolve_left hwrite).resolve_left happly
          exact hostEffect_hcGetReadings hi s ho

/-- A host access always completes, with one of the effects of `HostEffect`. -/
theorem exec_hostAccess (i : Instr) (s : State) (hi : isHostAccess (encode i) = true) :
    ∃ t, exec i s = .next t ∧ HostEffect s i t := by
  cases i with
  | rdCmd | rdResp | wrCmd | bulkCmd | bulkResp => simp [encode, isHostAccess] at hi
  | readReg a => exact ⟨_, rfl, hostEffect_hcReadReg (.readReg a) s (cmdOpc_cmdWord _ _) a⟩
  | writeReg a => exact ⟨_, rfl, hostEffect_hcWriteReg (.writeReg a) s a⟩
  | applySettings => exact ⟨_, rfl, hostEffect_hcApplySettings .applySettings s⟩
  | getReadings => exact ⟨_, rfl, hostEffect_hcGetReadings .getReadings s (cmdOpc_cmdWord _ _)⟩
  | csrwCmd w => exact ⟨_, rfl, hostEffect_hostWriteCmd w s⟩
  | csrwArg w => exact ⟨_, rfl, .arg w⟩
  | csrwCfg w =>
    cases hw : cfgLegal (w.extractLsb' 0 6) with
    | true => exact ⟨_, by simp [exec, execCsrwCfg, hw], .cfg w hw⟩
    | false => exact ⟨_, by simp [exec, execCsrwCfg, hw], .refused hw⟩
  | csrwCalDiv w =>
    cases hw : calLegal w with
    | true => exact ⟨_, by simp [exec, execCsrwCalDiv, hw], .calDiv w hw⟩
    | false => exact ⟨_, by simp [exec, execCsrwCalDiv, hw], .refused hw⟩
  | csrwCalRsh w =>
    cases hw : calLegal w with
    | true => exact ⟨_, by simp [exec, execCsrwCalRsh, hw], .calRsh w hw⟩
    | false => exact ⟨_, by simp [exec, execCsrwCalRsh, hw], .refused hw⟩
  | csrwRefused idx w => exact ⟨_, rfl, .refused trivial⟩
  | csrr idx => exact ⟨_, rfl, .read idx⟩

/-- The next state of a host access is one of the effects of `HostEffect`. -/
theorem hostEffect_of_exec {i : Instr} {s t : State} (hi : isHostAccess (encode i) = true)
    (h : exec i s = .next t) : HostEffect s i t := by
  obtain ⟨u, hu, he⟩ := exec_hostAccess i s hi
  cases hu.symm.trans h
  exact he

/-- Only `GET_READINGS` and the write of its word run a word with its opcode. -/
theorem RunsWord.of_opcGetReadings {i : Instr} {w : Word64} (hi : RunsWord i w) (ho : cmdOpc w = opcGetReadings) :
    i = .getReadings ∨ ∃ w, i = .csrwCmd w ∧ cmdOpc w = 0x04 := by
  cases hi with
  | getReadings => exact .inl rfl
  | csrwCmd => exact .inr ⟨w, rfl, ho⟩
  | _ => exact absurd ho (by simp [opcReadReg, opcWriteReg, opcApplySettings, opcGetReadings])

/-- Only `READ_REG` and the write of its word run a word with its opcode. -/
theorem RunsWord.of_opcReadReg {i : Instr} {w : Word64} (hi : RunsWord i w) (ho : cmdOpc w = opcReadReg) :
    (∃ a, i = .readReg a) ∨ ∃ w, i = .csrwCmd w ∧ cmdOpc w = 0x01 := by
  cases hi with
  | readReg a => exact .inl ⟨a, rfl⟩
  | csrwCmd => exact .inr ⟨w, rfl, ho⟩
  | _ => exact absurd ho (by simp [opcReadReg, opcWriteReg, opcApplySettings, opcGetReadings])

/-- The refused writes one by one, as O60 lists them. -/
theorem refusedWrite_iff (i : Instr) : refusedWrite i ↔
    (∃ w, i = .csrwCmd w ∧ illegalCmd w = true) ∨
      (∃ w, i = .csrwCfg w ∧ cfgLegal (w.extractLsb' 0 6) = false) ∨
      (∃ w, i = .csrwCalDiv w ∧ calLegal w = false) ∨ (∃ w, i = .csrwCalRsh w ∧ calLegal w = false) ∨
      (∃ idx w, i = .csrwRefused idx w) := by
  cases i <;> simp [refusedWrite]

/-! ## Sequencer -/

/-- `SEQ` at the stack `st` with the transient values `t` fits the command word `c` (10_state.md R24, R26). -/
def stackFits (c : Word64) (st : List SeqStep) (t : Txn) : Prop :=
  st ∈ legalStacks ∧ ∃ outer, st.head? = some outer ∧ cmdOpc c = stepOpc outer ∧ txnFits outer st t

theorem seqLegal_iff (s : State) :
    s.seqLegal ↔ (s.seq = [] ∧ s.txn = none) ∨ ∃ t, s.txn = some t ∧ stackFits s.cmd s.seq t := by
  unfold State.seqLegal
  cases s.txn <;> simp [stackFits]

theorem seqLegal_of_idle {s : State} (hs : s.seq = []) (ht : s.txn = none) : s.seqLegal :=
  (seqLegal_iff s).2 (.inl ⟨hs, ht⟩)

/-- At `IDLE` a legal state has no transient values. -/
theorem txn_none_of_seqLegal {s : State} (h : s.seqLegal) (hs : s.seq = []) : s.txn = none := by
  obtain ⟨-, ht⟩ | ⟨t, -, -, outer, hhead, -⟩ := (seqLegal_iff s).1 h
  · exact ht
  · simp [hs] at hhead

/-- The first step of the transaction that a step runs before the command goes on (44_sequencer.md R203, R205, R206). -/
def calledStep : SeqStep → Option SeqStep
  | .wrVerify | .asRead | .grAngle => some .rdSend
  | .asWrite => some .wrUnlock
  | .rdSend | .rdRecv | .wrUnlock | .wrWrite | .wrRelock | .grSend | .grRecv | .grCommit => none

/-- The moves of the transition table (44_sequencer.md R217) between two steps of one command, with what they do to
the transient values. Every other end of a step is `IDLE`. -/
inductive SeqMove : List SeqStep → Txn → List SeqStep → Txn → Prop
  | rdSend (up : List SeqStep) (t : Txn) :
      SeqMove (up ++ [.rdSend]) t (up ++ [.rdRecv]) { t with sent := encRd t.addr }
  | readBack (up : List SeqStep) (hup : up = [] ∨ up = [.asWrite]) (t : Txn) (v : Word24) :
      SeqMove (up ++ [.wrVerify, .rdRecv]) t (up ++ [.wrRelock]) { t with readBack := v }
  | modeRead (t : Txn) (v v' : Word24) :
      SeqMove [.asRead, .rdRecv] t [.asWrite] { t with readBack := v, value := v' }
  | angleRead (t : Txn) (v : Word24) : SeqMove [.grAngle, .rdRecv] t [.grCommit] { t with readBack := v }
  | wrUnlock (up : List SeqStep) (t : Txn) (f : List Byte) :
      SeqMove (up ++ [.wrUnlock]) t (up ++ [.wrWrite]) { t with sent := f }
  | wrWrite (up : List SeqStep) (t : Txn) (ha : t.addr ≠ Config.wpAddr) (f : List Byte) :
      SeqMove (up ++ [.wrWrite]) t (up ++ [.wrVerify]) { t with sent := f }
  | call (up : List SeqStep) {top sub : SeqStep} (hsub : calledStep top = some sub) (t : Txn) :
      SeqMove (up ++ [top]) t (up ++ [top, sub]) t
  | grSend (up : List SeqStep) (t : Txn) : SeqMove (up ++ [.grSend]) t (up ++ [.grRecv]) { t with sent := encBulk }
  | grRecv (up : List SeqStep) (t : Txn) (f : BulkFields) :
      SeqMove (up ++ [.grRecv]) t (up ++ [.grAngle]) { t with fields := some f }

/-- What one sequencer step can do (44_sequencer.md R217): end the command, which writes at most `ERR`, `RESULT` and
the link; end it with the commit of `GET_READINGS`; or make a move of the table, which writes only the link. -/
inductive SeqEffect (s : State) : State → Prop
  | ends (k : ErrKind) (r : Word24) (l : Link) : SeqEffect s (toIdle { s with err := k, result := r, link := l })
  | commits (f : BulkFields) (ra : Word24) : SeqEffect s (toIdle (commit f ra s))
  | moves {t t' : Txn} {st st' : List SeqStep} (hs : s.seq = st) (ht : s.txn = some t) (hm : SeqMove st t st' t')
      (l : Link) : SeqEffect s (atSteps st' t' { s with link := l })

/-- `SEND_FRAME` changes the link and nothing else. -/
theorem eq_withLink_of_sendFrame {f : List Byte} {s s' : State} {ok : Bool} (h : sendFrame f s = (ok, s')) :
    ∃ l, s' = { s with link := l } := by
  obtain rfl : (sendFrame f s).2 = s' := by rw [h]
  exact ⟨_, rfl⟩

/-- `RxRecv` changes the link and nothing else. -/
theorem rxRecv_snd_eq_withLink (n : Nat) (s : State) : ∃ l, (rxRecv n s).2 = { s with link := l } := ⟨_, rfl⟩

/-- A failed `READ_TXN` ends the command. -/
theorem seqEffect_readFailed (s : State) (l : Link) (up : List SeqStep) (k : ErrKind) :
    SeqEffect s (readFailed up k { s with link := l }) := by
  unfold readFailed
  split
  · exact .ends k 0 l
  · exact .ends k s.result l

/-- A successful `READ_TXN` ends the command or is one of the moves of the table. -/
theorem seqEffect_readDone {s u : State} {l : Link} {t : Txn} {up : List SeqStep} {v : Word24}
    (hs : s.seq = up.reverse ++ [.rdRecv]) (ht : s.txn = some t)
    (h : readDone up { t with readBack := v } { s with link := l } = some u) : SeqEffect s u := by
  unfold readDone at h
  split at h
  case h_1 => cases h; exact .ends s.err v l
  case h_2 =>
    split at h <;> cases h
    · exact .ends .writeVerify s.result l
    · exact .moves hs ht (.readBack [] (.inl rfl) t v) l
  case h_3 =>
    split at h <;> cases h
    · exact .ends .writeVerify s.result l
    · exact .moves hs ht (.readBack [.asWrite] (.inr rfl) t v) l
  case h_4 => cases h; exact .moves hs ht (.modeRead t v _) l
  case h_5 => cases h; exact .moves hs ht (.angleRead t v) l
  case h_6 => cases h

/-- A sequencer step has one of the effects of `SeqEffect`: the rows of the table, by the step on top. -/
theorem seqEffect_of_seqStep {s u : State} (h : seqStep s = some u) : SeqEffect s u := by
  simp only [seqStep, List.reverse_cons, List.append_assoc, List.cons_append, List.nil_append] at h
  split at h
  case h_1 up t hr ht => -- RD_SEND
    have hs := List.reverse_eq_cons_iff.1 hr
    split at h <;> cases h <;> obtain ⟨l, rfl⟩ := eq_withLink_of_sendFrame ‹_›
    · exact seqEffect_readFailed s l up _
    · exact .moves hs ht (.rdSend _ t) l
  case h_2 up t hr ht => -- RD_RECV
    have hs := List.reverse_eq_cons_iff.1 hr
    obtain ⟨l, hl⟩ := rxRecv_snd_eq_withLink Config.rdRespLen s
    rw [hl] at h
    split at h
    · cases h; exact seqEffect_readFailed s l up _
    · exact seqEffect_readDone hs ht h
  case h_3 up t hr ht => -- WR_UNLOCK
    have hs := List.reverse_eq_cons_iff.1 hr
    split at h <;> cases h <;> obtain ⟨l, rfl⟩ := eq_withLink_of_sendFrame ‹_›
    · exact .ends .writeSend s.result l
    · exact .moves hs ht (.wrUnlock _ t _) l
  case h_4 up t hr ht => -- WR_WRITE
    have hs := List.reverse_eq_cons_iff.1 hr
    split at h <;> obtain ⟨l, rfl⟩ := eq_withLink_of_sendFrame ‹_›
    · cases h; exact .ends .writeSend s.result l
    · split at h <;> cases h
      · exact .ends s.err s.result l
      · exact .moves hs ht (.wrWrite _ t ‹_› _) l
  case h_5 up t hr ht | h_7 up t hr ht | h_8 up t hr ht | h_11 up t hr ht => -- WR_VERIFY, AS_READ, AS_WRITE, GR_ANGLE
    cases h
    exact .moves (List.reverse_eq_cons_iff.1 hr) ht (.call _ rfl t) s.link
  case h_6 => -- WR_RELOCK
    cases h
    exact .ends s.err s.result _
  case h_9 up t hr ht => -- GR_SEND
    have hs := List.reverse_eq_cons_iff.1 hr
    split at h <;> cases h <;> obtain ⟨l, rfl⟩ := eq_withLink_of_sendFrame ‹_›
    · exact .ends .writeSend s.result l
    · exact .moves hs ht (.grSend _ t) l
  case h_10 up t hr ht => -- GR_RECV
    have hs := List.reverse_eq_cons_iff.1 hr
    obtain ⟨l, hl⟩ := rxRecv_snd_eq_withLink Config.bulkRespLen s
    rw [hl] at h
    split at h <;> cases h
    · exact .ends _ s.result l
    · exact .moves hs ht (.grRecv _ t _) l
  case h_12 => -- GR_COMMIT
    split at h <;> cases h
    exact .commits _ _
  case h_13 => cases h -- no row

/-- The stacks that can enclose a step: the transactions that run it (44_sequencer.md R203 to R206). -/
def enclosing : SeqStep → List (List SeqStep)
  | .rdSend | .rdRecv => [[], [.wrVerify], [.asRead], [.asWrite, .wrVerify], [.grAngle]]
  | .wrUnlock | .wrWrite | .wrVerify | .wrRelock => [[], [.asWrite]]
  | .asRead | .asWrite | .grSend | .grRecv | .grAngle | .grCommit => [[]]

/-- The last step of a legal stack is one the steps before it can enclose, and every such stack is legal. -/
theorem mem_legalStacks_concat (up : List SeqStep) (x : SeqStep) :
    up ++ [x] ∈ legalStacks ↔ up ∈ enclosing x := by
  constructor
  · intro h
    have hall : ∀ st ∈ legalStacks, ∀ y ∈ st.getLast?, st.dropLast ∈ enclosing y := by decide
    simpa using hall _ h x (by simp)
  · intro h
    have hall : ∀ v ∈ enclosing x, v ++ [x] ∈ legalStacks := by cases x <;> decide
    exact hall up h

/-- What the step on top asks of the transient values: a receiving step waits for the answer to the frame sent. -/
def topFits (x : SeqStep) (t : Txn) : Prop :=
  (x = .rdRecv → t.sent = encRd t.addr) ∧ (x = .grRecv → t.sent = encBulk)

/-- What the outermost step asks of the transient values. -/
def outerFits (outer : SeqStep) (t : Txn) : Prop :=
  (outer = .asRead ∨ outer = .asWrite → t.addr = Config.modeAddr) ∧
  (stepOpc outer = opcGetReadings → t.addr = Config.angleAddr) ∧
  (outer = .wrUnlock ∨ outer = .wrVerify ∨ outer = .wrRelock → t.addr ≠ Config.wpAddr) ∧
  (outer = .grAngle ∨ outer = .grCommit → t.fields ≠ none)

/-- A step that runs a transaction can enclose its first step. -/
theorem mem_enclosing_calledStep {up : List SeqStep} {top sub : SeqStep} (hsub : calledStep top = some sub)
    (hup : up ∈ enclosing top) : up ++ [top] ∈ enclosing sub := by
  cases top <;> cases hsub <;> fin_cases hup <;> decide

/-- The first step of a transaction sends, so it asks nothing of the transient values. -/
theorem topFits_calledStep {top sub : SeqStep} (hsub : calledStep top = some sub) (t : Txn) : topFits sub t := by
  cases top <;> cases hsub <;> simp [topFits]

theorem txnFits_concat (outer : SeqStep) (up : List SeqStep) (x : SeqStep) (t : Txn) :
    txnFits outer (up ++ [x]) t ↔ topFits x t ∧ outerFits outer t := by
  simp [txnFits, topFits, outerFits, and_assoc]

/-- A stack fits by its enclosing steps: the top is one they can enclose, the outermost step is the command's, and the
transient values fit both. -/
theorem stackFits_concat (c : Word64) (up : List SeqStep) (x : SeqStep) (t : Txn) :
    stackFits c (up ++ [x]) t ↔
      up ∈ enclosing x ∧ cmdOpc c = stepOpc (up.headD x) ∧ topFits x t ∧ outerFits (up.headD x) t := by
  simp only [stackFits, mem_legalStacks_concat, txnFits_concat]
  cases up <;> simp

theorem stackFits_singleton (c : Word64) (x : SeqStep) (t : Txn) :
    stackFits c [x] t ↔ [] ∈ enclosing x ∧ cmdOpc c = stepOpc x ∧ topFits x t ∧ outerFits x t :=
  stackFits_concat c [] x t

/-- Every move of the table keeps the stack legal, the outermost transaction that of the command, and the transient
values fitting: the enclosing steps stay, and what the new top asks of the transient values the move provides. -/
theorem SeqMove.keeps_stackFits {c : Word64} {st st' : List SeqStep} {t t' : Txn} (hm : SeqMove st t st' t')
    (h : stackFits c st t) : stackFits c st' t' := by
  cases hm with
  | rdSend up | wrUnlock up | wrWrite up | grSend up | grRecv up =>
    obtain ⟨hup, hopc, htop, houter⟩ := (stackFits_concat ..).1 h
    refine (stackFits_concat ..).2 ⟨hup, ?_⟩
    cases up with
    | nil => simp_all [topFits, outerFits, stepOpc, opcReadReg, opcWriteReg, opcGetReadings]
    | cons => simp_all [topFits, outerFits]
  | @call up top sub hsub t =>
    obtain ⟨hup, hopc, -, houter⟩ := (stackFits_concat ..).1 h
    have hhead : (up ++ [top]).headD sub = up.headD top := by cases up <;> rfl
    rw [List.append_cons, stackFits_concat, hhead]
    exact ⟨mem_enclosing_calledStep hsub hup, hopc, topFits_calledStep hsub t, houter⟩
  | readBack up hup t v =>
    rw [List.append_cons, stackFits_concat] at h
    obtain ⟨-, hopc, -, houter⟩ := h
    rcases hup with rfl | rfl <;> refine (stackFits_concat ..).2 ⟨by decide, hopc, by simp [topFits], ?_⟩
    · simpa [outerFits, stepOpc, opcWriteReg, opcGetReadings] using houter
    · exact houter
  | modeRead t v v' =>
    obtain ⟨-, hopc, -, houter⟩ := (stackFits_concat c [.asRead] .rdRecv t).1 h
    exact (stackFits_singleton ..).2
      ⟨by decide, hopc, by simp [topFits], by simpa [outerFits, stepOpc] using houter⟩
  | angleRead t v =>
    obtain ⟨-, hopc, -, houter⟩ := (stackFits_concat c [.grAngle] .rdRecv t).1 h
    exact (stackFits_singleton ..).2
      ⟨by decide, hopc, by simp [topFits], by simpa [outerFits, stepOpc] using houter⟩

/-- The table has a row for the end of every `READ_TXN` that a legal stack encloses. -/
theorem readDone_ne_none {up : List SeqStep} (hup : up ∈ enclosing .rdRecv) (t : Txn) (s : State) :
    readDone up.reverse t s ≠ none := by
  by_cases hv : t.readBack = t.value <;> fin_cases hup <;> simp [readDone, hv]

/-- No legal state is in a combination without a row in the table. -/
theorem seqStep_ne_none {s : State} (h : s.seqLegal) (hs : s.seq ≠ []) : seqStep s ≠ none := by
  obtain ⟨h, -⟩ | ⟨t, ht, hfit⟩ := (seqLegal_iff s).1 h
  · exact absurd h hs
  obtain h | ⟨up, x, hx⟩ := List.eq_nil_or_concat' s.seq
  · exact absurd h hs
  obtain ⟨hup, -, -, houter⟩ := (stackFits_concat ..).1 (hx ▸ hfit)
  have hrev : s.seq.reverse = x :: up.reverse := by simp [hx]
  simp only [seqStep, hrev, ht]
  cases x with
  | rdRecv =>
    dsimp only
    split
    · simp
    · exact readDone_ne_none hup _ _
  | grCommit =>
    obtain rfl : up = [] := by simpa [enclosing] using hup
    obtain ⟨-, -, -, hfields⟩ := houter
    obtain ⟨f, hf⟩ := Option.ne_none_iff_exists'.1 (hfields (.inr rfl))
    simp [hf]
  | _ =>
    dsimp only
    repeat' split
    all_goals simp

/-! ## The link and the ports -/

/-- `s` with another link and other inputs: what the environment can change. -/
def State.withEnv (s : State) (l : Link) (ins : List Input) : State := { s with link := l, inputs := ins }

@[simp] theorem withEnv_seq (s : State) (l : Link) (ins : List Input) : (s.withEnv l ins).seq = s.seq := rfl

/-- What bytes or a frame on the link can do: bytes stay on the link or nothing happens, or the running command takes
one step. The event itself is no transport call. -/
inductive LinkEffect (s : State) : Host.Outcome State Fault Refusal → Prop
  | quiet (l : Link) (hl : l.log = s.link.log) : LinkEffect s (.next (s.withEnv l s.inputs))
  | sequencer (hs : s.seq ≠ []) (l : Link) (hl : l.log = s.link.log) : LinkEffect s (advance (s.withEnv l s.inputs))

/-- Emitting a frame runs the sending step it is due in, or does nothing (log entry 7). -/
theorem linkEffect_emitFrame (f : List Byte) (s : State) : LinkEffect s (emitFrame f s) := by
  obtain ⟨hdue, h⟩ | ⟨-, h⟩ := emitFrame_cases f s <;> rw [h]
  · exact .sequencer (fun hs => by simp [dueFrame_idle hs] at hdue) s.link rfl
  · exact .quiet s.link rfl

/-- Arriving bytes are taken by the receiving step, or stay in the receive buffer (log entry 8). -/
theorem linkEffect_arriveFrame (bs : List Byte) (s : State) : LinkEffect s (arriveFrame bs s) := by
  obtain ⟨hr, h⟩ | ⟨-, h⟩ := arriveFrame_cases bs s <;> rw [h]
  · exact .sequencer (fun hs => by simp [receiving, hs] at hr) _ rfl
  · exact .quiet _ rfl

/-- A frame instruction has only the effects of an event on the link. -/
theorem linkEffect_exec (i : Instr) (s : State) (hi : isHostAccess (encode i) = false) : LinkEffect s (exec i s) := by
  cases i with
  | rdCmd a => exact linkEffect_emitFrame _ s
  | rdResp v c => exact linkEffect_arriveFrame _ s
  | wrCmd a v c =>
    simp only [exec, execWrCmd]
    split
    · exact linkEffect_emitFrame _ s
    · exact .quiet s.link rfl
  | bulkCmd => exact linkEffect_emitFrame _ s
  | bulkResp f => exact linkEffect_arriveFrame _ s
  | _ => simp [encode, isHostAccess] at hi

/-- The decoder keeps the port: a host access decodes to one, a frame to a frame. -/
theorem isHostAccess_encode_of_decode {e : PortEvent} {i : Instr} (h : decode e = .ok i) :
    isHostAccess (encode i) = isHostAccess e := by
  cases e with
  | hostWrite idx w =>
    cases h
    unfold decodeWrite decodeCommand
    repeat' split
    all_goals rfl
  | hostRead idx => cases h; rfl
  | frame bs =>
    simp only [decode, decodeFrame] at h
    repeat' split at h
    all_goals cases h <;> rfl

/-- The first step of each command fits its word (44_sequencer.md R208 to R211). -/
theorem stackFits_readReg (a : Byte) : stackFits (cmdWord opcReadReg a) [.rdSend] (startTxn a 0) := by
  rw [stackFits_singleton, cmdOpc_cmdWord]
  exact ⟨by decide, rfl, by simp [topFits], by simp [outerFits, stepOpc, opcReadReg, opcGetReadings]⟩

theorem stackFits_writeReg (a : Byte) (v : Word24) :
    stackFits (cmdWord opcWriteReg a) (if a = Config.wpAddr then [.wrWrite] else [.wrUnlock]) (startTxn a v) := by
  split <;> rw [stackFits_singleton, cmdOpc_cmdWord] <;> refine ⟨by decide, rfl, by simp [topFits], ?_⟩
  · simp [outerFits, stepOpc, opcWriteReg, opcGetReadings]
  · simpa [outerFits, stepOpc, opcWriteReg, opcGetReadings, startTxn]

theorem stackFits_applySettings :
    stackFits (cmdWord opcApplySettings 0) [.asRead] (startTxn Config.modeAddr 0) := by
  rw [stackFits_singleton, cmdOpc_cmdWord]
  exact ⟨by decide, rfl, by simp [topFits],
    by simp [outerFits, stepOpc, opcApplySettings, opcGetReadings, startTxn]⟩

theorem stackFits_getReadings : stackFits (cmdWord opcGetReadings 0) [.grSend] (startTxn Config.angleAddr 0) := by
  rw [stackFits_singleton, cmdOpc_cmdWord]
  exact ⟨by decide, rfl, by simp [topFits], by simp [outerFits, stepOpc, startTxn]⟩

/-- A command that is begun is accepted, and `SEQ` stands at a first step that fits its word. -/
theorem beginCommand_some {i : Instr} {s t : State} (h : beginCommand i s = some t) :
    ∃ w st x, RunsWord i w ∧ stackFits w st x ∧ t = atSteps st x (acceptCommand w s) := by
  cases i with
  | readReg a =>
    cases h
    exact ⟨_, _, _, .readReg a, stackFits_readReg a, rfl⟩
  | writeReg a =>
    cases h
    exact ⟨_, _, _, .writeReg a, stackFits_writeReg a s.arg, rfl⟩
  | applySettings =>
    cases h
    exact ⟨_, _, _, .applySettings, stackFits_applySettings, rfl⟩
  | getReadings =>
    cases h
    exact ⟨_, _, _, .getReadings, stackFits_getReadings, rfl⟩
  | _ => cases h

/-- What one step of the machine can do: nothing but at the link and the inputs; a step of the running command; the
reset; at `IDLE` a command accepted and begun; at `IDLE` a host access run to completion. -/
inductive StepEffect (s : State) : Host.Outcome State Fault Refusal → Prop
  | quiet (l : Link) (hl : l.log = s.link.log) (ins : List Input) : StepEffect s (.next (s.withEnv l ins))
  | sequencer (hs : s.seq ≠ []) (l : Link) (hl : l.log = s.link.log) (ins : List Input) :
      StepEffect s (advance (s.withEnv l ins))
  | reset (ins : List Input) : StepEffect s (.next (resetBlock { s with inputs := ins }))
  | begun (hs : s.seq = []) (ins : List Input) {i : Instr} {w : Word64} {st : List SeqStep} {x : Txn}
      (hw : RunsWord i w) (hfit : stackFits w st x) :
      StepEffect s (.next (atSteps st x (acceptCommand w { s with inputs := ins })))
  | host (hs : s.seq = []) (ins : List Input) {i : Instr} {t : State} (ht : HostEffect { s with inputs := ins } i t) :
      StepEffect s (.next t)

/-- Taking an input from the list does not matter to an event on the link. -/
theorem LinkEffect.stepEffect {s : State} {ins : List Input} {o : Host.Outcome State Fault Refusal}
    (h : LinkEffect { s with inputs := ins } o) : StepEffect s o := by
  cases h with
  | quiet l hl => exact StepEffect.quiet (s := s) l hl ins
  | sequencer hs l hl => exact StepEffect.sequencer (s := s) hs l hl ins

/-- A port event that is taken has one of the effects of a step. -/
theorem stepEffect_exec {e : PortEvent} {i : Instr} {s : State} (ins : List Input) (hd : decode e = .ok i)
    (htaken : s.seq = [] ∨ isHostAccess e = false) : StepEffect s (exec i { s with inputs := ins }) := by
  have hi := isHostAccess_encode_of_decode hd
  cases he : isHostAccess e with
  | false => exact (linkEffect_exec i _ (hi.trans he)).stepEffect
  | true =>
    obtain ⟨t, ht, heff⟩ := exec_hostAccess i { s with inputs := ins } (hi.trans he)
    rw [ht]
    exact .host (by simpa [he] using htaken) ins heff

/-- A command word runs by a host access. -/
theorem RunsWord.isHostAccess {i : Instr} {w : Word64} (h : RunsWord i w) : isHostAccess (encode i) = true := by
  cases h <;> rfl

/-- The input that is taken is the next one; a host access is taken at `IDLE` only (20_memory.md R61). -/
theorem takenInput_some {s : State} {inp : Input} {rest : List Input} (h : takenInput s = some (inp, rest)) :
    s.inputs = inp :: rest ∧
      ∀ e, inp = .event e ∨ inp = .stepwise e → s.seq = [] ∨ isHostAccess e = false := by
  unfold takenInput at h
  split at h
  case h_1 => cases h
  case h_2 | h_3 =>
    split at h <;> cases h
    exact ⟨‹_›, by simpa using ‹s.seq = [] ∨ _›⟩
  case h_4 => cases h; exact ⟨‹_›, by simp⟩
  case h_5 =>
    split at h <;> cases h
    exact ⟨‹_›, by simp⟩

/-- An input that is taken has one of the effects of a step. -/
theorem stepEffect_runInput {s : State} {inp : Input} {rest : List Input} (h : takenInput s = some (inp, rest)) :
    StepEffect s (runInput inp { s with inputs := rest }) := by
  obtain ⟨-, htaken⟩ := takenInput_some h
  cases inp with
  | event e =>
    simp only [runInput, runEvent]
    split
    case h_1 i hd => exact stepEffect_exec rest hd (htaken e (.inl rfl))
    case h_2 => exact (linkEffect_arriveFrame _ _).stepEffect
  | stepwise e =>
    simp only [runInput, beginEvent]
    split
    case h_1 i hd =>
      split
      case h_1 t ht =>
        obtain ⟨w, st, x, hw, hfit, rfl⟩ := beginCommand_some ht
        have he : isHostAccess e = true := (isHostAccess_encode_of_decode hd).symm.trans hw.isHostAccess
        exact .begun (by simpa [he] using htaken e (.inr rfl)) rest hw hfit
      case h_2 => exact stepEffect_exec rest hd (htaken e (.inr rfl))
    case h_2 => exact (linkEffect_arriveFrame _ _).stepEffect
  | arrive bs => exact (linkEffect_arriveFrame _ _).stepEffect
  | reset n => exact .reset rest

/-- Every step of the machine has one of the effects of `StepEffect`. -/
theorem stepEffect_step (s : State) : StepEffect s (step s) := by
  obtain ⟨inp, rest, htaken, h⟩ | ⟨-, -, h⟩ | ⟨-, hs, h⟩ := step_cases s <;> rw [h]
  · exact stepEffect_runInput htaken
  · exact .quiet s.link rfl s.inputs
  · exact .sequencer hs s.link rfl _

/-- A sequencer step answers a next state exactly if the table has a row. -/
theorem advance_eq_next {s t : State} : advance s = .next t ↔ seqStep s = some t := by
  unfold advance
  cases seqStep s <;> simp

/-- The induction step of an invariant, once: if the environment keeps `P`, and every effect of a step leads from `P`
to `Q`, then every step does. -/
theorem step_leads {P Q : State → Prop}
    (henv : ∀ s l ins, P s → P (s.withEnv l ins))
    (hquiet : ∀ s, P s → Q s)
    (hseq : ∀ s t, P s → s.seq ≠ [] → SeqEffect s t → Q t)
    (hreset : ∀ s, Q (resetBlock s))
    (hbegin : ∀ s w st x, P s → illegalCmd w = false → stackFits w st x → Q (atSteps st x (acceptCommand w s)))
    (hhost : ∀ s i t, P s → s.seq = [] → HostEffect s i t → Q t)
    {s t : State} (hs : P s) (h : step s = .next t) : Q t := by
  have heff := stepEffect_step s
  generalize step s = o at h heff
  cases heff with
  | quiet l _ ins => cases h; exact hquiet _ (henv s l ins hs)
  | sequencer hne l _ ins =>
    exact hseq _ t (henv s l ins hs) hne (seqEffect_of_seqStep (advance_eq_next.1 h))
  | reset ins => cases h; exact hreset _
  | begun _ ins hw hfit => cases h; exact hbegin _ _ _ _ (henv s s.link ins hs) hw.legal hfit
  | host hidle ins ht => cases h; exact hhost _ _ t (henv s s.link ins hs) hidle ht

/-- A commit with legal calibration registers makes the snapshot coherent, whatever it was (10_state.md R38). -/
theorem snapshotCoherent_commit (f : BulkFields) (ra : Word24) {s : State} (h : s.registersLegal) :
    (commit f ra s).snapshotCoherent := by
  obtain ⟨-, -, hdiv, hrsh⟩ := h
  exact .inr ⟨rfl, s.calDiv, s.calRsh, cfgFreq s.cfg, hdiv, hrsh, rfl⟩

theorem registersLegal_resetBlock (s : State) : (resetBlock s).registersLegal := by
  have h : State.reset.registersLegal := ⟨.inl rfl, by decide, by decide, by decide⟩
  exact h

theorem seqLegal_of_stackFits {s : State} {x : Txn} (hx : s.txn = some x) (h : stackFits s.cmd s.seq x) :
    s.seqLegal := (seqLegal_iff s).2 (.inr ⟨x, hx, h⟩)

theorem stackFits_of_seqLegal {s : State} {x : Txn} (h : s.seqLegal) (hx : s.txn = some x) :
    stackFits s.cmd s.seq x := by
  obtain ⟨-, hnone⟩ | ⟨y, hy, hfit⟩ := (seqLegal_iff s).1 h
  · simp [hx] at hnone
  · cases hx.symm.trans hy; exact hfit

/-- No step from a legal state faults (60_exceptions.md R246). -/
theorem step_ne_fault {s : State} (hs : s.seqLegal) (r : Fault) : step s ≠ .fault r := by
  intro h
  have heff := stepEffect_step s
  generalize step s = o at h heff
  cases heff with
  | sequencer hne l _ ins =>
    obtain ⟨t, ht⟩ := Option.ne_none_iff_exists'.1 (seqStep_ne_none (s := s.withEnv l ins) hs hne)
    simp [advance, ht] at h
  | _ => cases h

theorem decode_of_decodeTableWord {nbits w : Nat} {i : Instr} (h : decodeTableWord nbits w = some i) :
    ∃ e, tableEvent nbits w = some e ∧ decode e = .ok i := by
  unfold decodeTableWord at h
  split at h
  case h_1 e he =>
    split at h <;> cases h
    exact ⟨e, he, ‹_›⟩
  case h_2 => cases h

/-- At `IDLE` the environment's next act is all that the placing of an event changes. -/
theorem withEvent_idle (e : PortEvent) {s : State} (hs : s.seq = []) (ht : s.txn = none) :
    withEvent e s = { s with inputs := .event e :: s.inputs } := by
  unfold withEvent toIdle
  split
  · rw [← hs, ← ht]
  · rfl

/-! ## Calibration words -/

/-- An encoding is 0 exactly when its three fields are. -/
theorem f64_eq_zero_iff (w : Word64) : w = 0 ↔ w.msb = false ∧ f64Exp w = 0 ∧ f64Frac w = 0 := by
  rw [← BitVec.toNat_inj, BitVec.msb_eq_decide, f64Exp, f64Frac]
  simp only [BitVec.extractLsb'_toNat, Nat.shiftRight_eq_div_pow, decide_eq_false_iff_not]
  have hw := w.isLt
  change w.toNat = 0 ↔ _
  omega

/-- The hidden bit makes every normal significand positive; a subnormal one is its fraction. -/
theorem f64Sig_pos_iff (w : Word64) : 0 < f64Sig w ↔ f64Exp w ≠ 0 ∨ f64Frac w ≠ 0 := by
  unfold f64Sig
  split
  · simp [*, Nat.pos_iff_ne_zero]
  · simp [*]

/-- The scale of an exact value is a positive power of two, so its sign is that of the sign bit and the significand. -/
theorem f64Val_pos_iff (w : Word64) : 0 < f64Val w ↔ w.msb = false ∧ 0 < f64Sig w := by
  have hscale (n : Nat) : (0 : ℚ) < (2 ^ n : Nat) := Nat.cast_pos.mpr (Nat.two_pow_pos n)
  have hmag : 0 < f64Sig w * 2 ^ (f64Exp w - 1) ↔ 0 < f64Sig w := by simp
  unfold f64Val
  rw [div_pos_iff_of_pos_right (hscale _), ← hmag]
  generalize f64Sig w * 2 ^ (f64Exp w - 1) = m
  cases w.msb <;> simp

/-! ## The statements -/

/-- Settles O54: of the effects of a step, only an accepted command or register write changes one of these registers,
and it has checked the new value. -/
theorem stepKeepsRegistersLegal : Obligations.StepKeepsRegistersLegal := by
  unfold Obligations.StepKeepsRegistersLegal
  intro s t hs h
  refine step_leads (P := State.registersLegal) ?henv ?hquiet ?hseq ?hreset ?hbegin ?hhost hs h
  case henv => exact fun s l ins h => h
  case hquiet => exact fun s h => h
  case hseq =>
    intro s t h _ ht
    cases ht <;> exact h
  case hreset => exact fun s => registersLegal_resetBlock s
  case hbegin => exact fun s w st x h hw _ => ⟨.inr hw, h.2⟩
  case hhost =>
    intro s i t h _ ht
    obtain ⟨hcmd, hcfg, hdiv, hrsh⟩ := h
    cases ht with
    | cfg w hw => exact ⟨hcmd, hw, hdiv, hrsh⟩
    | calDiv w hw => exact ⟨hcmd, hcfg, hw, hrsh⟩
    | calRsh w hw => exact ⟨hcmd, hcfg, hdiv, hw⟩
    | errOnly hi | readReg hi | readings hi => exact ⟨.inr hi.legal, hcfg, hdiv, hrsh⟩
    | _ => exact ⟨hcmd, hcfg, hdiv, hrsh⟩

/-- Settles O55: the snapshot changes only by a commit, whole and with the legal calibration that holds, or by a
reset. -/
theorem stepKeepsSnapshotCoherent : Obligations.StepKeepsSnapshotCoherent := by
  unfold Obligations.StepKeepsSnapshotCoherent
  intro s t hreg hsnap h
  refine step_leads (P := fun s => s.registersLegal ∧ s.snapshotCoherent) ?henv ?hquiet ?hseq ?hreset ?hbegin ?hhost
    ⟨hreg, hsnap⟩ h
  case henv => exact fun s l ins h => h
  case hquiet => exact fun s h => h.2
  case hseq =>
    intro s t ⟨hreg, hsnap⟩ _ ht
    cases ht with
    | commits f ra => exact snapshotCoherent_commit f ra hreg
    | ends | moves => exact hsnap
  case hreset => exact fun s => .inl ⟨rfl, rfl, rfl, rfl⟩
  case hbegin => exact fun s w st x h _ _ => h.2
  case hhost =>
    intro s i t ⟨hreg, hsnap⟩ _ ht
    cases ht with
    | readings _ _ f ra => exact snapshotCoherent_commit f ra hreg
    | _ => exact hsnap

/-- Settles O56: a command begins at a step that fits its word, and every sequencer step ends it or makes a move of the
table, which keeps the fit. -/
theorem stepKeepsSequencerLegal : Obligations.StepKeepsSequencerLegal := by
  unfold Obligations.StepKeepsSequencerLegal
  intro s hs
  refine ⟨fun t h => ?_, fun r => step_ne_fault hs r⟩
  refine step_leads (P := State.seqLegal) ?henv ?hquiet ?hseq ?hreset ?hbegin ?hhost hs h
  case henv => exact fun s l ins h => h
  case hquiet => exact fun s h => h
  case hseq =>
    intro s t h hne ht
    cases ht with
    | ends | commits => exact seqLegal_of_idle rfl rfl
    | moves hst hx hm l => exact seqLegal_of_stackFits rfl (hm.keeps_stackFits (hst ▸ stackFits_of_seqLegal h hx))
  case hreset => exact fun s => seqLegal_of_idle rfl rfl
  case hbegin => exact fun s w st x _ _ hfit => seqLegal_of_stackFits rfl hfit
  case hhost =>
    intro s i t h hidle ht
    have hx := txn_none_of_seqLegal h hidle
    cases ht with
    | errOnly | readReg | readings => exact seqLegal_of_idle rfl rfl
    | _ => exact seqLegal_of_idle hidle hx

/-- Settles O13: the value is positive exactly if the sign is 0 and the significand is not. -/
theorem calibrationLegalIffFinitePositive : Obligations.CalibrationLegalIffFinitePositive := by
  unfold Obligations.CalibrationLegalIffFinitePositive
  intro w
  rw [f64Val_pos_iff, f64Sig_pos_iff]
  simp only [calLegal, Bool.and_eq_true, Bool.not_eq_true', bne_iff_ne, ne_eq, f64_eq_zero_iff]
  tauto

/-- Settles O35: `GET_TXN` fails with an error kind, or ends in one commit. -/
theorem snapshotAllOrNothing : Obligations.SnapshotAllOrNothing := by
  unfold Obligations.SnapshotAllOrNothing
  intro s
  refine ⟨_, rfl, ?_⟩
  rcases hcGetReadings_acceptCommand (cmdWord opcGetReadings 0) s with ⟨k, l, hk, h⟩ | ⟨f, ra, l, h⟩ <;> rw [h]
  · exact ⟨fun _ => rfl, fun h' => absurd h' hk⟩
  · exact ⟨fun h' => absurd rfl h', fun _ => ⟨f, ra, rfl⟩⟩

/-- Settles O58: of the effects of a host access, only `readings` writes the snapshot and only `readReg` writes
`RESULT`. -/
theorem snapshotAndResultOnlyByTheirCommands : Obligations.SnapshotAndResultOnlyByTheirCommands := by
  unfold Obligations.SnapshotAndResultOnlyByTheirCommands
  intro i s t h hhost
  have hi : isHostAccess (encode i) = true := by
    rcases hhost with ⟨e, he⟩ | ⟨e, w, he⟩ <;> rw [he] <;> rfl
  cases hostEffect_of_exec hi h with
  | readReg hw ho => exact ⟨by simp, fun _ => hw.of_opcReadReg ho⟩
  | readings hw ho => exact ⟨fun _ => hw.of_opcGetReadings ho, by simp⟩
  | _ => simp

/-- Settles O59: a frame runs at most one sequencer step, which writes none of the four, and of the host accesses only
the write of the register does. -/
theorem configurationOnlyByHostWrites : Obligations.ConfigurationOnlyByHostWrites := by
  unfold Obligations.ConfigurationOnlyByHostWrites
  intro i s t h
  cases hi : isHostAccess (encode i) with
  | true => cases hostEffect_of_exec hi h <;> simp
  | false =>
    have heff := linkEffect_exec i s hi
    generalize exec i s = o at h heff
    cases heff with
    | quiet l => cases h; simp [State.withEnv]
    | sequencer hs l =>
      cases seqEffect_of_seqStep (advance_eq_next.1 h) <;> simp [State.withEnv]

/-- Settles O60, by the effects of a host access: the refused ones set `ILL`, every other write clears it. -/
theorem illSetExactlyByRefusedWrites : Obligations.IllSetExactlyByRefusedWrites := by
  unfold Obligations.IllSetExactlyByRefusedWrites
  intro i s t h ⟨e, w, he⟩
  rw [← refusedWrite_iff]
  cases hostEffect_of_exec (he ▸ rfl) h with
  | refused hi => simp [hi]
  | read => simp [encode] at he
  | arg => simp [refusedWrite]
  | cfg w hw | calDiv w hw | calRsh w hw => simp [refusedWrite, hw]
  | errOnly hw | readReg hw | readings hw => simp [hw.not_refusedWrite]

/-- Settles O48, by what the step takes from the inputs. -/
theorem stepRunsDecodedInstruction : Obligations.StepRunsDecodedInstruction := by
  unfold Obligations.StepRunsDecodedInstruction
  intro e i rest s hin hd
  have htaken (h : s.seq = [] ∨ isHostAccess e = false) : step s = exec i { s with inputs := rest } := by
    simp [step, portStep, takenInput, hin, h, runInput, runEvent, hd]
  refine ⟨fun h => htaken (.inl h), fun h => htaken (.inr h), fun hs he t ht => ?_⟩
  have hwait : takenInput s = none := by simp [takenInput, hin, hs, he]
  have htick : { s with inputs := tick s.inputs } = s := by
    rw [hin, tick, ← hin]
    simp
  simp [step, portStep, hwait, hs, htick, advance, ht]

/-- Settles O50: the placed word is the next input, and O48 says what the step does with it. -/
theorem placedWordRunsNext : Obligations.PlacedWordRunsNext := by
  unfold Obligations.PlacedWordRunsNext
  intro nbits w i s hdec hs ht
  obtain ⟨e, he, hd⟩ := decode_of_decodeTableWord hdec
  have hplaced : s.withFetchWord nbits w = { s with inputs := .event e :: s.inputs } := by
    rw [State.withFetchWord, he]
    exact withEvent_idle e hs ht
  rw [hplaced]
  exact (stepRunsDecodedInstruction e i s.inputs _ rfl hd).1 hs

end Sys2Proof.Machine

namespace Sys2Proof.Machine

/-! # The link: its receive buffer, its transcript and the frames sent (20_memory.md section 5) -/

/-! ## Stale bytes -/

/-- `s` with other bytes in the receive buffer. -/
def State.withRxBuf (s : State) (bs : List Byte) : State := { s with link := { s.link with rxBuf := bs } }

/-- The flush of `SEND_FRAME` discards the receive buffer (20_memory.md R63). -/
@[simp] theorem sendFrame_withRxBuf (f : List Byte) (s : State) (bs : List Byte) :
    sendFrame f (s.withRxBuf bs) = sendFrame f s := rfl

@[simp] theorem acceptCommand_withRxBuf (w : Word64) (s : State) (bs : List Byte) :
    acceptCommand w (s.withRxBuf bs) = (acceptCommand w s).withRxBuf bs := rfl

@[simp] theorem withRxBuf_arg (s : State) (bs : List Byte) : (s.withRxBuf bs).arg = s.arg := rfl

/-! Every transaction starts with a send. -/

@[simp] theorem readTxn_withRxBuf (a : Byte) (s : State) (bs : List Byte) :
    readTxn a (s.withRxBuf bs) = readTxn a s := by
  simp only [readTxn, sendFrame_withRxBuf]

@[simp] theorem writeTail_withRxBuf (a : Byte) (v : Word24) (s : State) (bs : List Byte) :
    writeTail a v (s.withRxBuf bs) = writeTail a v s := by
  simp only [writeTail, sendFrame_withRxBuf]

@[simp] theorem writeTxn_withRxBuf (a : Byte) (v : Word24) (s : State) (bs : List Byte) :
    writeTxn a v (s.withRxBuf bs) = writeTxn a v s := by
  simp only [writeTxn, sendFrame_withRxBuf, writeTail_withRxBuf]

@[simp] theorem applyTxn_withRxBuf (s : State) (bs : List Byte) : applyTxn (s.withRxBuf bs) = applyTxn s := by
  simp only [applyTxn, readTxn_withRxBuf]

@[simp] theorem getTxn_withRxBuf (s : State) (bs : List Byte) : getTxn (s.withRxBuf bs) = getTxn s := by
  simp only [getTxn, sendFrame_withRxBuf]

/-! ## Command frames -/

/-- A write frame's bytes give its checksum byte back. -/
theorem wrBytes_eq_encWr_iff (a : Byte) (v : Word24) (c : Byte) :
    wrBytes a v c = encWr a v ↔ c = cksum ([Config.wrHdr, a] ++ enc24 v) := by
  simp [encWr, wrBytes]

/-- A frame that is not due is not emitted. -/
theorem emitFrame_of_not_due {f : List Byte} {s : State} (h : dueFrame s ≠ some f) : emitFrame f s = .next s :=
  if_neg h

/-- The little-endian bytes of a value decode to it (41_frame_codec.md R120). -/
@[simp] theorem dec24_enc24 (v : Word24) : dec24 (enc24 v) = v := by
  ext i hi
  have hv := BitVec.getLsbD_eq_getElem (x := v) hi
  obtain h8 | ⟨h8, h16⟩ | h16 : i < 8 ∨ (8 ≤ i ∧ i < 16) ∨ 16 ≤ i := by omega
  · simp [dec24, enc24, hv, h8, show i < 16 by omega]
  · simp [dec24, enc24, hv, h8, h16, Nat.not_lt.2 h8, show i - 8 < 8 by omega]
  · simp [dec24, enc24, hv, Nat.not_lt.2 h16, show ¬ i < 8 by omega, show ¬ i - 8 < 8 by omega,
      show i - 16 < 8 by omega, show 16 + (i - 16) = i by omega]

@[simp] theorem isCommandFrame_encRd (a : Byte) : isCommandFrame (encRd a) = true := by
  by_cases ha : a = Config.bulkSub <;> simp [isCommandFrame, decodeFrame, encRd, ha]

@[simp] theorem isCommandFrame_encBulk : isCommandFrame encBulk = true := isCommandFrame_encRd Config.bulkSub

@[simp] theorem isCommandFrame_encWr (a : Byte) (v : Word24) : isCommandFrame (encWr a v) = true := by
  have hdec : decodeFrame (encWr a v) = .ok (.wrCmd a v (cksum ([Config.wrHdr, a] ++ enc24 v))) := by
    have h := dec24_enc24 v
    simpa [decodeFrame, encWr, wrBytes, enc24] using h
  simp only [isCommandFrame, hdec, Instr.wellFormed]
  exact beq_self_eq_true _

/-! ## Transcript -/

/-- The last call of a transcript is what the next one follows. -/
theorem callsOrdered_append (prev : Option Call) (xs ys : List Call) :
    callsOrdered prev (xs ++ ys) = (callsOrdered prev xs && callsOrdered (xs.getLast?.or prev) ys) := by
  induction xs generalizing prev with
  | nil => simp [callsOrdered]
  | cons x xs ih =>
    have hlast : (x :: xs).getLast?.or prev = xs.getLast?.or (some x) := by
      cases h : xs.getLast? <;> simp [List.getLast?_cons, h]
    simp [callsOrdered, ih, hlast, Bool.and_assoc]

/-- Every call made so far may follow the one before it: the first half of `State.linkLegal`. -/
def State.logOrdered (s : State) : Prop := callsOrdered none s.link.log = true

/-- The block asks for `n` bytes in answer to the frame `f` (20_memory.md R62, 30_encoding.md R77). -/
inductive Answered : Nat → List Byte → Prop
  | read (a : Byte) : Answered Config.rdRespLen (encRd a)
  | bulk : Answered Config.bulkRespLen encBulk

/-- A sent frame keeps the transcript ordered, and is its last call (44_sequencer.md R204). -/
theorem State.logOrdered.sendFrame {f : List Byte} {s s' : State} {ok : Bool} (h : s.logOrdered)
    (hf : isCommandFrame f = true) (hs : sendFrame f s = (ok, s')) :
    s'.logOrdered ∧ s'.link.log.getLast? = some (.send f ok) := by
  obtain ⟨ok', -, hs'⟩ := sendFrame_spec f s
  cases hs.symm.trans hs'
  unfold State.logOrdered at h ⊢
  simp [Link.after, callsOrdered_append, h, callsOrdered, callFollows, hf]

/-- A receive right after the successful send of the frame it answers keeps the transcript ordered. -/
theorem State.logOrdered.rxRecv {n : Nat} {f : List Byte} {s : State} (h : s.logOrdered) (hn : Answered n f)
    (hlast : s.link.log.getLast? = some (.send f true)) : (rxRecv n s).2.logOrdered := by
  obtain ⟨xs, -, hr⟩ := rxRecv_spec n s
  unfold State.logOrdered at h ⊢
  cases hn <;> simp [hr, callsOrdered_append, h, hlast, callsOrdered, callFollows, Config.rxTimeoutMs, encRd]

/-! Every transaction keeps the transcript ordered. -/

theorem logOrdered_readTxn (a : Byte) {s : State} (h : s.logOrdered) : (readTxn a s).2.logOrdered := by
  rcases hs : sendFrame (encRd a) s with ⟨_ | _, s₁⟩ <;>
    obtain ⟨h₁, hlast⟩ := h.sendFrame (isCommandFrame_encRd a) hs <;> simp only [readTxn, hs]
  · exact h₁
  · have h₂ := h₁.rxRecv (.read a) hlast
    split <;> exact h₂

theorem logOrdered_verifyTxn (a : Byte) (v : Word24) {s : State} (h : s.logOrdered) :
    (verifyTxn a v s).2.logOrdered := by
  have h₁ := logOrdered_readTxn a h
  rcases hr : readTxn a s with ⟨_ | rb, s₁⟩ <;> rw [hr] at h₁ <;> simp only [verifyTxn, hr]
  · exact h₁
  · split
    · exact h₁
    · exact (h₁.sendFrame (isCommandFrame_encWr _ _) rfl).1

theorem logOrdered_writeTail (a : Byte) (v : Word24) {s : State} (h : s.logOrdered) :
    (writeTail a v s).2.logOrdered := by
  rcases hs : sendFrame (encWr a v) s with ⟨_ | _, s₁⟩ <;>
    obtain ⟨h₁, -⟩ := h.sendFrame (isCommandFrame_encWr a v) hs <;> simp only [writeTail, hs]
  · exact h₁
  · split
    · exact h₁
    · exact logOrdered_verifyTxn a v h₁

theorem logOrdered_writeTxn (a : Byte) (v : Word24) {s : State} (h : s.logOrdered) :
    (writeTxn a v s).2.logOrdered := by
  unfold writeTxn
  split
  · exact logOrdered_writeTail a v h
  · split <;> obtain ⟨h₁, -⟩ := h.sendFrame (isCommandFrame_encWr _ _) ‹_›
    · exact h₁
    · exact logOrdered_writeTail a v h₁

theorem logOrdered_applyTxn {s : State} (h : s.logOrdered) : (applyTxn s).2.logOrdered := by
  have h₁ := logOrdered_readTxn Config.modeAddr h
  rcases hr : readTxn Config.modeAddr s with ⟨_ | m, s₁⟩ <;> rw [hr] at h₁ <;> simp only [applyTxn, hr]
  · exact h₁
  · exact logOrdered_writeTxn _ _ h₁

theorem logOrdered_getTxn {s : State} (h : s.logOrdered) : (getTxn s).2.logOrdered := by
  rcases hs : sendFrame encBulk s with ⟨_ | _, s₁⟩ <;>
    obtain ⟨h₁, hlast⟩ := h.sendFrame isCommandFrame_encBulk hs
  · simp only [getTxn, hs]
    exact h₁
  · rw [getTxn_sent s s₁ hs]
    have h₂ : (rxRecv 35 s₁).2.logOrdered := h₁.rxRecv .bulk hlast
    have h₃ := logOrdered_readTxn Config.angleAddr h₂
    split
    · exact h₂
    · split <;> rename_i hr <;> rw [hr] at h₃ <;> exact h₃

theorem logOrdered_hostWriteCmd (w : Word64) {s : State} (h : s.logOrdered) : (hostWriteCmd w s).logOrdered := by
  have hacc : (acceptCommand w s).logOrdered := h
  unfold hostWriteCmd
  split_ifs
  exacts [h, logOrdered_readTxn _ hacc, logOrdered_writeTxn _ _ hacc, logOrdered_applyTxn hacc,
    logOrdered_getTxn hacc]

/-- A host access keeps the transcript ordered: a command by its transaction, any other makes no call. -/
theorem logOrdered_of_hostAccess {i : Instr} {s t : State} (hi : isHostAccess (encode i) = true)
    (h : exec i s = .next t) (ho : s.logOrdered) : t.logOrdered := by
  cases i with
  | rdCmd | rdResp | wrCmd | bulkCmd | bulkResp => simp [encode, isHostAccess] at hi
  | readReg a => cases h; exact logOrdered_readTxn a ho
  | writeReg a => cases h; exact logOrdered_writeTxn a _ ho
  | applySettings => cases h; exact logOrdered_applyTxn (s := acceptCommand _ s) ho
  | getReadings => cases h; exact logOrdered_getTxn (s := acceptCommand _ s) ho
  | csrwCmd w => cases h; exact logOrdered_hostWriteCmd w ho
  | csrwCfg w | csrwCalDiv w | csrwCalRsh w =>
    simp only [exec, execCsrwCfg, execCsrwCalDiv, execCsrwCalRsh] at h
    split at h <;> cases h <;> exact ho
  | csrwArg | csrwRefused | csrr => cases h; exact ho

/-! ## Link discipline -/

theorem receiving_idle {s : State} (h : s.seq = []) : receiving s = false := by simp [receiving, h]

/-- Only `RD_RECV` and `GR_RECV` receive. -/
theorem receiving_concat {s : State} {up : List SeqStep} {x : SeqStep} (h : s.seq = up ++ [x]) :
    receiving s = true ↔ x = .rdRecv ∨ x = .grRecv := by
  cases x <;> simp [receiving, h]

/-- A state that waits for no answer asks only for an ordered transcript. -/
theorem State.logOrdered.linkLegal {s : State} (h : s.logOrdered) (hr : receiving s = false) : s.linkLegal :=
  ⟨h, by simp [hr]⟩

/-- After a successful send, whatever step comes next may be one that waits for the answer. -/
theorem linkLegal_atSteps_sent {f : List Byte} {s : State} (h : s.logOrdered)
    (hlast : s.link.log.getLast? = some (.send f true)) (st : List SeqStep) (t : Txn) :
    (atSteps st { t with sent := f } s).linkLegal := ⟨h, fun _ => hlast⟩

/-- A step that does not receive may come at any time. -/
theorem linkLegal_atSteps {s : State} (h : s.logOrdered) (up : List SeqStep) {x : SeqStep}
    (hx : ¬ (x = .rdRecv ∨ x = .grRecv)) (t : Txn) : (atSteps (up ++ [x]) t s).linkLegal :=
  State.logOrdered.linkLegal h (eq_false_of_ne_true (mt (receiving_concat rfl).1 hx))

theorem linkLegal_toIdle {s : State} (h : s.logOrdered) : (toIdle s).linkLegal :=
  State.logOrdered.linkLegal h (receiving_idle rfl)

theorem linkLegal_readFailed {s : State} (h : s.logOrdered) (up : List SeqStep) (k : ErrKind) :
    (readFailed up k s).linkLegal := by
  unfold readFailed
  split <;> exact linkLegal_toIdle h

/-- No step that a `READ_TXN` goes on to receives. -/
theorem linkLegal_readDone {s u : State} {up : List SeqStep} {t : Txn} (h : s.logOrdered)
    (hu : readDone up t s = some u) : u.linkLegal := by
  unfold readDone at hu
  repeat' split at hu
  all_goals cases hu <;> exact State.logOrdered.linkLegal h rfl

/-- The last call before a receive is the send of the frame it answers. -/
theorem getLast?_log_of_receiving {s : State} {t : Txn} (hl : s.linkLegal) (ht : s.txn = some t)
    (hr : receiving s = true) : s.link.log.getLast? = some (.send t.sent true) := by
  simpa [ht] using hl.2 hr

/-- A receiving step waits for the answer to the frame sent last. -/
theorem topFits_of_seqLegal {s : State} {t : Txn} {up : List SeqStep} {x : SeqStep} (h : s.seqLegal)
    (ht : s.txn = some t) (hs : s.seq = up ++ [x]) : topFits x t := by
  obtain ⟨-, -, htop, -⟩ := (stackFits_concat ..).1 (hs ▸ stackFits_of_seqLegal h ht)
  exact htop

/-- Every row of the transition table keeps the link discipline (44_sequencer.md R217): a sending row sends its command
frame, and only a success leads to the row that receives the answer; no other row calls the transport. -/
theorem linkLegal_of_seqStep {s u : State} (hseq : s.seqLegal) (hl : s.linkLegal) (h : seqStep s = some u) :
    u.linkLegal := by
  have ho : s.logOrdered := hl.1
  simp only [seqStep, List.reverse_cons, List.append_assoc, List.cons_append, List.nil_append] at h
  split at h
  case h_1 up t hr ht => -- RD_SEND
    split at h <;> cases h <;> obtain ⟨h₁, hlast⟩ := ho.sendFrame (isCommandFrame_encRd _) ‹_›
    · exact linkLegal_readFailed h₁ up _
    · exact linkLegal_atSteps_sent h₁ hlast _ t
  case h_2 up t hr ht => -- RD_RECV
    have hs := List.reverse_eq_cons_iff.1 hr
    have hlast := getLast?_log_of_receiving hl ht ((receiving_concat hs).2 (by simp))
    rw [(topFits_of_seqLegal hseq ht hs).1 rfl] at hlast
    have h₁ := ho.rxRecv (.read t.addr) hlast
    split at h
    · cases h; exact linkLegal_readFailed h₁ up _
    · exact linkLegal_readDone h₁ h
  case h_3 up t hr ht => -- WR_UNLOCK
    split at h <;> cases h <;> obtain ⟨h₁, hlast⟩ := ho.sendFrame (isCommandFrame_encWr _ _) ‹_›
    · exact linkLegal_toIdle h₁
    · exact linkLegal_atSteps_sent h₁ hlast _ t
  case h_4 up t hr ht => -- WR_WRITE
    split at h <;> obtain ⟨h₁, hlast⟩ := ho.sendFrame (isCommandFrame_encWr _ _) ‹_›
    · cases h; exact linkLegal_toIdle h₁
    · split at h <;> cases h
      · exact linkLegal_toIdle h₁
      · exact linkLegal_atSteps_sent h₁ hlast _ t
  case h_5 up t hr ht | h_7 up t hr ht | h_8 up t hr ht | h_11 up t hr ht => -- WR_VERIFY, AS_READ, AS_WRITE, GR_ANGLE
    cases h
    rw [List.append_cons]
    exact linkLegal_atSteps ho _ (by decide) t
  case h_6 => -- WR_RELOCK
    cases h
    exact linkLegal_toIdle (ho.sendFrame (isCommandFrame_encWr _ _) rfl).1
  case h_9 up t hr ht => -- GR_SEND
    split at h <;> cases h <;> obtain ⟨h₁, hlast⟩ := ho.sendFrame isCommandFrame_encBulk ‹_›
    · exact linkLegal_toIdle h₁
    · exact linkLegal_atSteps_sent h₁ hlast _ t
  case h_10 up t hr ht => -- GR_RECV
    have hs := List.reverse_eq_cons_iff.1 hr
    have hlast := getLast?_log_of_receiving hl ht ((receiving_concat hs).2 (by simp))
    rw [(topFits_of_seqLegal hseq ht hs).2 rfl] at hlast
    have h₁ := ho.rxRecv .bulk hlast
    split at h <;> cases h
    · exact linkLegal_toIdle h₁
    · exact linkLegal_atSteps h₁ _ (by decide) _
  case h_12 => -- GR_COMMIT
    split at h <;> cases h
    exact linkLegal_toIdle ho
  case h_13 => cases h -- no row

/-- At `IDLE` a host access leaves `SEQ` there (20_memory.md R61). -/
theorem HostEffect.seq_idle {s t : State} {i : Instr} (h : HostEffect s i t) (hs : s.seq = []) : t.seq = [] := by
  cases h with
  | errOnly | readReg | readings => rfl
  | _ => exact hs

/-- A command that is begun has made no transport call, and its first step does not receive. -/
theorem beginCommand_link {i : Instr} {s t : State} (h : beginCommand i s = some t) :
    t.link = s.link ∧ receiving t = false := by
  cases i with
  | writeReg a =>
    cases h
    refine ⟨rfl, ?_⟩
    by_cases ha : a = Config.wpAddr <;> simp [ha, receiving, atSteps]
  | readReg | applySettings | getReadings => cases h; exact ⟨rfl, rfl⟩
  | _ => cases h

/-- How a step of the machine reaches the link: it makes no transport call and waits for no other answer than before;
or it is a step of the running command; or at `IDLE` it runs a host access. -/
inductive LinkStep (s t : State) : Prop
  | keeps (hlog : t.link.log = s.link.log) (hwait : receiving t = true → receiving s = true ∧ t.txn = s.txn)
  | sequencer (l : Link) (hl : l.log = s.link.log) (ins : List Input) (h : seqStep (s.withEnv l ins) = some t)
  | host (hs : s.seq = []) (ins : List Input) {i : Instr} (hi : isHostAccess (encode i) = true)
      (h : exec i { s with inputs := ins } = .next t)

theorem LinkEffect.linkStep {s t : State} {ins : List Input} {o : Host.Outcome State Fault Refusal}
    (h : LinkEffect { s with inputs := ins } o) (ho : o = .next t) : LinkStep s t := by
  cases h with
  | quiet l hl => cases ho; exact .keeps hl fun hr => ⟨hr, rfl⟩
  | sequencer _ l hl => exact .sequencer l hl ins (advance_eq_next.1 ho)

/-- A port event that is taken is an event on the link, or a host access at `IDLE`. -/
theorem linkStep_exec {e : PortEvent} {i : Instr} {s t : State} {ins : List Input} (hd : decode e = .ok i)
    (htaken : s.seq = [] ∨ isHostAccess e = false) (h : exec i { s with inputs := ins } = .next t) :
    LinkStep s t := by
  have hi := isHostAccess_encode_of_decode hd
  cases he : isHostAccess e with
  | false => exact (linkEffect_exec i _ (hi.trans he)).linkStep h
  | true => exact .host (by simpa [he] using htaken) ins (hi.trans he) h

theorem linkStep_runInput {s t : State} {inp : Input} {rest : List Input} (htaken : takenInput s = some (inp, rest))
    (h : runInput inp { s with inputs := rest } = .next t) : LinkStep s t := by
  obtain ⟨-, htaken⟩ := takenInput_some htaken
  cases inp with
  | event e =>
    simp only [runInput, runEvent] at h
    split at h
    case h_1 i hd => exact linkStep_exec hd (htaken e (.inl rfl)) h
    case h_2 => exact (linkEffect_arriveFrame _ _).linkStep h
  | stepwise e =>
    simp only [runInput, beginEvent] at h
    split at h
    case h_1 i hd =>
      split at h
      case h_1 u hu =>
        cases h
        obtain ⟨hlink, hr⟩ := beginCommand_link hu
        exact .keeps (by rw [hlink]) (by simp [hr])
      case h_2 => exact linkStep_exec hd (htaken e (.inr rfl)) h
    case h_2 => exact (linkEffect_arriveFrame _ _).linkStep h
  | arrive bs => exact (linkEffect_arriveFrame _ _).linkStep h
  | reset n => cases h; exact .keeps rfl (by simp [receiving_idle (s := resetBlock _) rfl])

theorem linkStep_step {s t : State} (h : step s = .next t) : LinkStep s t := by
  obtain ⟨inp, rest, htaken, hstep⟩ | ⟨-, -, hstep⟩ | ⟨-, -, hstep⟩ := step_cases s <;> rw [hstep] at h
  · exact linkStep_runInput htaken h
  · cases h; exact .keeps rfl fun hr => ⟨hr, rfl⟩
  · exact .sequencer s.link rfl _ (advance_eq_next.1 h)

/-! ## The statements -/

/-- Settles O57: a step makes no transport call, or is a row of the transition table, or runs a host access whose
transaction keeps the transcript ordered and ends at `IDLE`. -/
theorem stepKeepsLinkDiscipline : Obligations.StepKeepsLinkDiscipline := by
  unfold Obligations.StepKeepsLinkDiscipline
  intro s t hseq hl h
  cases linkStep_step h with
  | keeps hlog hwait =>
    obtain ⟨ho, hlast⟩ := hl
    refine ⟨hlog ▸ ho, fun hr => ?_⟩
    obtain ⟨hrs, htxn⟩ := hwait hr
    rw [hlog, htxn, hlast hrs]
  | sequencer l hlog ins ht =>
    have henv : (s.withEnv l ins).linkLegal := by
      unfold State.linkLegal State.withEnv
      rw [hlog]
      exact hl
    exact linkLegal_of_seqStep (s := s.withEnv l ins) hseq henv ht
  | host hs ins hi ht =>
    have ho : t.logOrdered := logOrdered_of_hostAccess (s := { s with inputs := ins }) hi ht hl.1
    exact ho.linkLegal (receiving_idle ((hostEffect_of_exec hi ht).seq_idle hs))

/-- `READ_REG 0x18` with its read command sent and the answer for 0x123456 on its way. -/
def awaitingAnswer : State :=
  { State.reset with
    cmd := cmdWord opcReadReg 0x18, seq := [.rdRecv], txn := some { startTxn 0x18 0 with sent := encRd 0x18 }
    link := { rxBuf := [], sendAnswers := [], arrivals := [readResponse 0x18 0x123456]
              log := [.flush, .send (encRd 0x18) true] } }

/-- A receiving state meets the hypotheses of O57, and its step receives the answer. -/
theorem awaitingAnswer_linkLegal :
    receiving awaitingAnswer = true ∧
      ∃ t, step awaitingAnswer = .next t ∧ t.result = 0x123456 ∧ t.linkLegal := by
  have hseq : awaitingAnswer.seqLegal := seqLegal_of_stackFits rfl
    ((stackFits_singleton ..).2 ⟨by decide, cmdOpc_cmdWord _ _, ⟨fun _ => rfl, nofun⟩,
      by simp [outerFits, stepOpc, opcReadReg, opcGetReadings]⟩)
  have hlink : awaitingAnswer.linkLegal := ⟨by decide, fun _ => rfl⟩
  exact ⟨rfl, _, rfl, by decide, stepKeepsLinkDiscipline _ _ hseq hlink rfl⟩

/-- Settles O38: each command starts with a transaction, which starts with a flush. -/
theorem staleBytesHaveNoEffect : Obligations.StaleBytesHaveNoEffect := by
  unfold Obligations.StaleBytesHaveNoEffect
  intro s stale
  change (∀ a, exec (.readReg a) (s.withRxBuf stale) = _) ∧ (∀ a, exec (.writeReg a) (s.withRxBuf stale) = _) ∧
    exec .applySettings (s.withRxBuf stale) = _ ∧ exec .getReadings (s.withRxBuf stale) = _
  refine ⟨fun a => ?_, fun a => ?_, ?_, ?_⟩
  · simp [exec, execReadReg, hcReadReg]
  · simp [exec, execWriteReg, hcWriteReg]
  · simp [exec, execApplySettings, hcApplySettings]
  · simp [exec, execGetReadings, hcGetReadings]

/-- Settles O42: no frame is due at `IDLE`, a frame that is not due is not emitted, and no write frame has another
checksum byte than the one computed. -/
theorem framesNotDueDoNothing : Obligations.FramesNotDueDoNothing := by
  unfold Obligations.FramesNotDueDoNothing
  intro s
  refine ⟨dueFrame_idle, fun a h => emitFrame_of_not_due h, fun h => emitFrame_of_not_due h, fun a v c h => ?_,
    fun a v c h => ?_⟩
  · simp only [exec, execWrCmd, emitFrame_of_not_due h, ite_self]
  · exact if_neg fun heq => h ((wrBytes_eq_encWr_iff a v c).1 heq)

end Sys2Proof.Machine

namespace Sys2Proof.Machine

/-! # The encodings: command words, and bytes on the link that no frame asks for (30_encoding.md) -/

/-! ## The fields of a command word as numbers (30_encoding.md R81) -/

@[simp] theorem cmdOpc_toNat (w : Word64) : (cmdOpc w).toNat = w.toNat % 256 := by
  simp [cmdOpc]

@[simp] theorem cmdAddr_toNat (w : Word64) : (cmdAddr w).toNat = w.toNat / 256 % 256 := by
  simp [cmdAddr, Nat.shiftRight_eq_div_pow]

@[simp] theorem cmdReserved_toNat (w : Word64) : (cmdReserved w).toNat = w.toNat / 65536 := by
  have hw : w.toNat / 65536 < 2 ^ 48 := by omega
  simpa [cmdReserved, Nat.shiftRight_eq_div_pow] using hw

/-- A word is legal when its reserved bits are 0 and its opcode takes its address (30_encoding.md R82). -/
theorem illegalCmd_eq_false_iff (w : Word64) :
    illegalCmd w = false ↔ cmdReserved w = 0 ∧
      (cmdOpc w = opcReadReg ∨ cmdOpc w = opcWriteReg ∨
        ((cmdOpc w = opcApplySettings ∨ cmdOpc w = opcGetReadings) ∧ cmdAddr w = 0)) := by
  simp only [illegalCmd, Bool.or_eq_false_iff, bne_eq_false_iff_eq, Bool.not_eq_false', Bool.or_eq_true,
    Bool.and_eq_true, beq_iff_eq, or_assoc]

/-- The same as arithmetic on the word. -/
theorem illegalCmd_eq_false_iff_toNat (w : Word64) :
    illegalCmd w = false ↔ w.toNat < 65536 ∧
      (w.toNat % 256 = 1 ∨ w.toNat % 256 = 2 ∨
        ((w.toNat % 256 = 3 ∨ w.toNat % 256 = 4) ∧ w.toNat / 256 % 256 = 0)) := by
  have hres : w.toNat / 65536 = 0 ↔ w.toNat < 65536 := by omega
  simp [illegalCmd_eq_false_iff, ← BitVec.toNat_inj, hres, opcReadReg, opcWriteReg, opcApplySettings,
    opcGetReadings]

/-- Settles O17: the illegal words are those outside the arithmetic form of the legal ones, and the write of one is
refused before it runs anything. -/
theorem illegalCommandRefused : Obligations.IllegalCommandRefused := by
  unfold Obligations.IllegalCommandRefused
  intro w
  refine ⟨?_, fun hw s => ?_⟩
  · rw [← Bool.not_eq_false, illegalCmd_eq_false_iff_toNat]
    omega
  · have hrefuse : hostWriteCmd w s = refuseWrite s := if_pos hw
    exact congrArg _ hrefuse

/-! ## Arrivals at a step that does not receive -/

/-- The block parses nothing it did not ask for (30_encoding.md R77). -/
theorem arriveFrame_of_not_receiving {s : State} (h : receiving s = false) (bs : List Byte) :
    arriveFrame bs s = .next (s.withRxBuf (s.link.rxBuf ++ bs)) := by
  simp [arriveFrame, h, State.withRxBuf]

/-- Settles O46: a response frame, and any bytes that are no frame, are arrivals. -/
theorem unaskedFramesStayInBuffer : Obligations.UnaskedFramesStayInBuffer := by
  unfold Obligations.UnaskedFramesStayInBuffer
  intro s hs
  refine ⟨fun v c => arriveFrame_of_not_receiving hs _, fun f => arriveFrame_of_not_receiving hs _,
    fun bs why rest hin => ?_⟩
  rw [step_bytes hin]
  exact arriveFrame_of_not_receiving (s := { s with inputs := rest }) hs bs

/-! ## Arrivals at a receiving step -/

/-- Fewer than 4 bytes are no read response (41_frame_codec.md R122). -/
theorem decRd_of_short {rs : List Byte} (h : rs.length < 4) (a : Byte) : decRd a rs = .bad .readLength := if_pos h

/-- Fewer than 35 bytes are no bulk response (41_frame_codec.md R129). -/
theorem decBulk_of_short {rs : List Byte} (h : rs.length < 35) : decBulk rs = .bad .readLength := if_pos h

/-- `s` after a receive of up to `n` bytes with nothing in the buffer before it, when the bytes `bs` arrived: the first
`n` are returned, the others stay (41_frame_codec.md R132). -/
def State.afterRecv (s : State) (n : Nat) (bs : List Byte) : State :=
  { s with link := { s.link with rxBuf := bs.drop n, log := s.link.log ++ [.recv n 500 (bs.take n)] } }

/-- A receive into an empty buffer returns the first bytes of what arrives. -/
theorem rxRecv_arrival {s : State} (hb : s.link.rxBuf = []) (n : Nat) (bs : List Byte) :
    rxRecv n { s with link := { s.link with arrivals := bs :: s.link.arrivals } } = (bs.take n, s.afterRecv n bs) := by
  simp [rxRecv, received, nextArrivals, hb, State.afterRecv, Config.rxTimeoutMs]

/-- With no more bytes than asked for, all are returned and the buffer stays empty. -/
theorem afterRecv_of_length_le {s : State} {n : Nat} {bs : List Byte} (hb : s.link.rxBuf = []) (h : bs.length ≤ n) :
    s.afterRecv n bs = { s with link := { s.link with log := s.link.log ++ [.recv n 500 bs] } } := by
  simp [State.afterRecv, List.drop_eq_nil_of_le h, List.take_of_length_le h, ← hb]

/-- Arrivals with the same first bytes differ in what they leave in the buffer. -/
theorem afterRecv_of_take_eq (s : State) {n : Nat} {bs bs' : List Byte} (h : bs'.take n = bs.take n) :
    s.afterRecv n bs' = (s.afterRecv n bs).withRxBuf (bs'.drop n) := by
  simp [State.afterRecv, State.withRxBuf, h]

/-! The end of a `READ_TXN` does not see the receive buffer. -/

theorem readFailed_withRxBuf (up : List SeqStep) (k : ErrKind) (s : State) (bs : List Byte) :
    readFailed up k (s.withRxBuf bs) = (readFailed up k s).withRxBuf bs := by
  unfold readFailed
  split <;> rfl

theorem readDone_withRxBuf (up : List SeqStep) (t : Txn) (s : State) (bs : List Byte) :
    readDone up t (s.withRxBuf bs) = (readDone up t s).map (·.withRxBuf bs) := by
  unfold readDone
  repeat' split
  all_goals rfl

section Receiving

variable {s : State} {t : Txn} {up : List SeqStep} {bs : List Byte}

/-- `RD_RECV` ends its command with the kind of the check that failed. -/
theorem arriveFrame_rdRecv_bad {k : ErrKind} (ht : s.txn = some t) (hb : s.link.rxBuf = [])
    (hs : s.seq = up ++ [.rdRecv]) (hd : decRd (t.sent.getD 1 0) (bs.take 4) = .bad k) :
    arriveFrame bs s = .next (readFailed up.reverse k (s.afterRecv 4 bs)) := by
  rw [arriveFrame_rdRecv s t bs up ht hb hs, hd]
  rfl

/-- `RD_RECV` hands a value that passed the checks to the transaction it is part of. -/
theorem arriveFrame_rdRecv_ok {v : Word24} {u : State} (ht : s.txn = some t) (hb : s.link.rxBuf = [])
    (hs : s.seq = up ++ [.rdRecv]) (hd : decRd (t.sent.getD 1 0) (bs.take 4) = .ok v) :
    arriveFrame bs s = .next u ↔ readDone up.reverse { t with readBack := v } (s.afterRecv 4 bs) = some u := by
  rw [arriveFrame_rdRecv s t bs up ht hb hs, hd]
  simp only [State.afterRecv]
  generalize readDone _ _ _ = o
  cases o <;> simp

/-- `RD_RECV` looks at the first 4 bytes only; what follows them stays in the receive buffer. -/
theorem arriveFrame_rdRecv_of_take_eq {bs' : List Byte} {u : State} (ht : s.txn = some t)
    (hb : s.link.rxBuf = []) (hs : s.seq = up ++ [.rdRecv]) (htake : bs'.take 4 = bs.take 4)
    (h : arriveFrame bs s = .next u) :
    arriveFrame bs' s = .next (u.withRxBuf (bs'.drop 4)) := by
  have hafter := afterRecv_of_take_eq s htake
  cases hd : decRd (t.sent.getD 1 0) (bs.take 4) with
  | bad k =>
    cases (arriveFrame_rdRecv_bad ht hb hs hd).symm.trans h
    rw [arriveFrame_rdRecv_bad ht hb hs (htake ▸ hd), hafter, readFailed_withRxBuf]
  | ok v =>
    rw [arriveFrame_rdRecv_ok ht hb hs hd] at h
    rw [arriveFrame_rdRecv_ok ht hb hs (htake ▸ hd), hafter, readDone_withRxBuf, h, Option.map_some]

/-- `RD_RECV` ends its command on fewer than 4 bytes. -/
theorem arriveFrame_rdRecv_of_short (ht : s.txn = some t) (hb : s.link.rxBuf = []) (hs : s.seq = up ++ [.rdRecv])
    (hlen : bs.length < 4) :
    arriveFrame bs s = .next { s with
      err := .readLength, result := if up = [] then 0 else s.result, seq := [], txn := none
      link := { s.link with log := s.link.log ++ [.recv 4 500 bs] } } := by
  have hd : decRd (t.sent.getD 1 0) (bs.take 4) = .bad .readLength :=
    decRd_of_short (by simpa using hlen) _
  rw [arriveFrame_rdRecv_bad ht hb hs hd, afterRecv_of_length_le hb hlen.le]
  by_cases hup : up = [] <;> simp [readFailed, hup, toIdle, fail]

/-- `READ_REG`'s `RD_RECV` ends the command with what `DEC_RD` says of the first 4 bytes (44_sequencer.md R208). -/
theorem arriveFrame_readReg (ht : s.txn = some t) (hb : s.link.rxBuf = []) (hs : s.seq = [.rdRecv]) :
    arriveFrame bs s = .next (toIdle { s.afterRecv 4 bs with
      err := (match decRd (t.sent.getD 1 0) (bs.take 4) with | .ok _ => s.err | .bad k => k)
      result := (match decRd (t.sent.getD 1 0) (bs.take 4) with | .ok v => v | .bad _ => 0) }) := by
  cases hd : decRd (t.sent.getD 1 0) (bs.take 4) with
  | bad k => exact arriveFrame_rdRecv_bad (up := []) ht hb hs hd
  | ok v => exact (arriveFrame_rdRecv_ok (up := []) ht hb hs hd).2 rfl

/-- The row of `GR_RECV` in the transition table (44_sequencer.md R217). -/
theorem seqStep_grRecv (ht : s.txn = some t) (hs : s.seq = [.grRecv]) :
    seqStep s =
      match decBulk (rxRecv 35 s).1 with
      | .bad k => some (toIdle (fail k (rxRecv 35 s).2))
      | .ok f => some (atSteps [.grAngle] { t with fields := some f } (rxRecv 35 s).2) := by
  cases hd : decBulk (rxRecv 35 s).1 <;> simp [seqStep, hs, ht, Config.bulkRespLen, hd]

/-- What `GR_RECV` does with bytes that arrive: the first 35 are checked (44_sequencer.md R206). -/
theorem arriveFrame_grRecv (ht : s.txn = some t) (hb : s.link.rxBuf = []) (hs : s.seq = [.grRecv]) :
    arriveFrame bs s =
      match decBulk (bs.take 35) with
      | .bad k => .next (toIdle (fail k (s.afterRecv 35 bs)))
      | .ok f => .next (atSteps [.grAngle] { t with fields := some f } (s.afterRecv 35 bs)) := by
  have hr : receiving s = true := by simp [receiving, hs]
  have hrow := seqStep_grRecv (s := { s with link := { s.link with arrivals := bs :: s.link.arrivals } }) ht hs
  rw [rxRecv_arrival hb] at hrow
  cases hd : decBulk (bs.take 35) <;> simp [arriveFrame, hr, advance, hrow, hd]

/-- `GR_RECV` ends its command on fewer than 35 bytes. -/
theorem arriveFrame_grRecv_of_short (ht : s.txn = some t) (hb : s.link.rxBuf = []) (hs : s.seq = [.grRecv])
    (hlen : bs.length < 35) :
    arriveFrame bs s = .next { s with
      err := .readLength, seq := [], txn := none
      link := { s.link with log := s.link.log ++ [.recv 35 500 bs] } } := by
  have hd : decBulk (bs.take 35) = .bad .readLength := decBulk_of_short (by simpa using hlen)
  rw [arriveFrame_grRecv ht hb hs, hd, afterRecv_of_length_le hb hlen.le]
  rfl

end Receiving

/-- Settles O45: a frame event and any other bytes are arrivals, which the receiving step checks by their length and
their first bytes. -/
theorem otherBytesTaken : Obligations.OtherBytesTaken := by
  unfold Obligations.OtherBytesTaken
  intro s t up rest ht hb
  refine ⟨fun f v c u hs htake h => ?_, fun v c hs => ?_, fun bs why hin => ?_⟩
  · exact arriveFrame_rdRecv_of_take_eq (bs := rdRespBytes v c) ht hb hs htake.symm h
  · exact arriveFrame_grRecv_of_short ht hb hs (by decide : 4 < 35)
  · rw [step_bytes hin]
    refine ⟨fun hs hlen => ?_, fun hs hlen => ?_, fun a hs hsent => ?_⟩
    · exact arriveFrame_rdRecv_of_short (s := { s with inputs := rest }) ht hb hs hlen
    · exact arriveFrame_grRecv_of_short (s := { s with inputs := rest }) ht hb hs hlen
    · have h := arriveFrame_readReg (s := { s with inputs := rest }) (bs := bs) ht hb hs
      rw [hsent] at h
      exact h

end Sys2Proof.Machine

namespace Sys2Proof.Machine

/-! # The checksum unit (40_checksum.md)

Every property of the checksum comes from one number: bytes and their checksum byte sum to 255 mod 256 (R106). -/

/-! ## The checksum and its check -/

/-- R100 as a number. -/
theorem cksum_toNat (bs : List Byte) : (cksum bs).toNat = 255 - byteSum bs % 256 := by
  simp only [cksum, BitVec.toNat_not, BitVec.toNat_ofNat]

/-- The checksum is the byte that closes the sum. -/
theorem eq_cksum_iff_closes (bs : List Byte) (c : Byte) :
    c = cksum bs ↔ byteSum (bs ++ [c]) % 256 = 255 := by
  have hc := c.isLt
  simp only [← BitVec.toNat_inj, cksum_toNat, byteSum_append, byteSum_cons, byteSum_nil]
  omega

theorem ckchk_iff (bs : List Byte) (c : Byte) : ckchk bs c = true ↔ c = cksum bs := by simp [ckchk]

theorem ckchk_iff_closes (bs : List Byte) (c : Byte) : ckchk bs c = true ↔ byteSum (bs ++ [c]) % 256 = 255 :=
  (ckchk_iff bs c).trans (eq_cksum_iff_closes bs c)

/-- The checksum depends on the sum mod 256 alone. -/
theorem cksum_congr {xs ys : List Byte} (h : byteSum xs % 256 = byteSum ys % 256) : cksum xs = cksum ys := by
  simp only [← BitVec.toNat_inj, cksum_toNat, h]

/-- Moving `d` from one byte to another keeps their sum mod 256. -/
theorem add_toNat_sub_toNat_mod (b b' d : Byte) :
    ((b + d).toNat + (b' - d).toNat) % 256 = (b.toNat + b'.toNat) % 256 := by
  have hd := d.isLt
  simp only [BitVec.toNat_add, BitVec.toNat_sub]
  omega

/-! ## Closed frames -/

/-- A list's bytes before its last one, and its last one, are the list. -/
theorem take_append_getD_last {rs : List Byte} {n : Nat} (h : rs.length = n + 1) :
    rs.take n ++ [rs.getD n 0] = rs := by
  have hn : n < rs.length := by omega
  rw [List.getD_eq_getElem _ _ hn, List.take_append_getElem hn, List.take_of_length_le h.le]

/-- The check of a frame's last byte, over a prefix `pre` and the frame's bytes before the last, closes the sum of both. -/
theorem ckchk_last_iff_closes (pre : List Byte) {rs : List Byte} {n : Nat} (h : rs.length = n + 1) :
    ckchk (pre ++ rs.take n) (rs.getD n 0) = true ↔ byteSum (pre ++ rs) % 256 = 255 := by
  rw [ckchk_iff_closes, List.append_assoc, take_append_getD_last h]

/-- `DEC_RD` accepts 4 bytes exactly when the checksum check passes (41_frame_codec.md R122). -/
theorem decRd_accepts_iff (a : Byte) {rs : List Byte} (h : rs.length = 4) :
    (∃ v, decRd a rs = .ok v) ↔ ckchk ([Config.rdHdr, a] ++ rs.take 3) (rs.getD 3 0) = true := by
  have hlen : ¬ rs.length < Config.rdRespLen := by simp [h, Config.rdRespLen]
  simp only [decRd, if_neg hlen]
  cases ckchk ([Config.rdHdr, a] ++ rs.take 3) (rs.getD 3 0) <;> simp

/-- `DEC_BULK` accepts 35 bytes exactly when the checksum check passes (41_frame_codec.md R129). -/
theorem decBulk_accepts_iff {rs : List Byte} (h : rs.length = 35) :
    (∃ f, decBulk rs = .ok f) ↔ ckchk ([Config.rdHdr] ++ rs.take 34) (rs.getD 34 0) = true := by
  have hlen : ¬ rs.length < Config.bulkRespLen := by simp [h, Config.bulkRespLen]
  simp only [decBulk, if_neg hlen]
  cases ckchk ([Config.rdHdr] ++ rs.take 34) (rs.getD 34 0) <;> simp

/-- Three bytes are the little-endian bytes of the value they decode to (41_frame_codec.md R120). -/
@[simp] theorem enc24_dec24 (b0 b1 b2 : Byte) : enc24 (dec24 [b0, b1, b2]) = [b0, b1, b2] := by
  have h0 : (dec24 [b0, b1, b2]).extractLsb' 0 8 = b0 := by
    ext i hi
    simp [dec24, hi, show i < 16 by omega, show i < 24 by omega]
  have h1 : (dec24 [b0, b1, b2]).extractLsb' 8 8 = b1 := by
    ext i hi
    simp [dec24, hi, show 8 + i < 16 by omega, show 8 + i < 24 by omega]
  have h2 : (dec24 [b0, b1, b2]).extractLsb' 16 8 = b2 := by
    ext i hi
    simp [dec24, hi, BitVec.getLsbD_of_ge b0 (16 + i) (by omega), BitVec.getLsbD_of_ge b1 (16 + i - 8) (by omega),
      show 16 + i < 24 by omega]
  rw [enc24, h0, h1, h2]

/-- Six bytes with the write header are a write frame but for the checksum byte (30_encoding.md R74). -/
theorem eq_wrBytes_of_header {f : List Byte} (hlen : f.length = 6) (hhdr : f.getD 0 0 = Config.wrHdr) :
    ∃ a v c, f = wrBytes a v c := by
  match f, hlen with
  | [h, a, b0, b1, b2, c], _ =>
    obtain rfl : h = Config.wrHdr := hhdr
    exact ⟨a, dec24 [b0, b1, b2], c, by simp [wrBytes]⟩

/-- Bytes laid out as a write frame are the frame the block emits exactly when their sum closes. -/
theorem wrBytes_eq_encWr_iff_closes (a : Byte) (v : Word24) (c : Byte) :
    wrBytes a v c = encWr a v ↔ byteSum (wrBytes a v c) % 256 = 255 :=
  (wrBytes_eq_encWr_iff a v c).trans (eq_cksum_iff_closes _ c)

/-! ## The obligations -/

/-- Settles O1: all but the example follow from the checksum's number. -/
theorem checksumIsComplementOfLowByte : Obligations.ChecksumIsComplementOfLowByte := by
  unfold Obligations.ChecksumIsComplementOfLowByte
  refine ⟨cksum_toNat, fun xs ys zs h => cksum_congr ?_, rfl, fun bs h => ?_, fun bs h => ?_, by decide⟩
  · simp only [byteSum_append]
    omega
  · simp [← BitVec.toNat_inj, cksum_toNat, h]
  · simp [← BitVec.toNat_inj, cksum_toNat, h]

/-- Settles O2: each acceptance is a checksum check of the last byte, and that check is the closure of the sum. -/
theorem checksumClosure : Obligations.ChecksumClosure := by
  unfold Obligations.ChecksumClosure
  refine ⟨fun bs => ?_, fun f hlen hhdr => ⟨?_, fun hsum => ?_⟩, fun a r hlen => ?_, fun r hlen => ?_⟩
  · simpa using (eq_cksum_iff_closes bs (cksum bs)).1 rfl
  · rintro ⟨a, v, rfl⟩
    exact (wrBytes_eq_encWr_iff_closes a v _).1 rfl
  · obtain ⟨a, v, c, rfl⟩ := eq_wrBytes_of_header hlen hhdr
    exact ⟨a, v, (wrBytes_eq_encWr_iff_closes a v c).2 hsum⟩
  · rw [decRd_accepts_iff a hlen, ckchk_last_iff_closes _ hlen]
    simp [Config.rdHdr, Nat.add_assoc]
  · rw [decBulk_accepts_iff hlen, ckchk_last_iff_closes _ hlen]
    simp [Config.rdHdr]

/-- Settles O3: a change of one byte moves the sum off 255 mod 256, two opposite changes keep it. -/
theorem checksumCheckDetectsSingleByteChange : Obligations.ChecksumCheckDetectsSingleByteChange := by
  unfold Obligations.ChecksumCheckDetectsSingleByteChange
  refine ⟨ckchk_iff, fun xs ys b b' c hne hok => ?_, fun xs ys zs b b' d c => ?_, by decide, by decide⟩
  · have hb := b.isLt
    have hb' := b'.isLt
    rw [ne_eq, ← BitVec.toNat_inj] at hne
    rw [← Bool.not_eq_true]
    simp only [ckchk_iff_closes, byteSum_append, byteSum_cons] at hok ⊢
    omega
  · have hpair := add_toNat_sub_toNat_mod b b' d
    rw [ckchk, ckchk, cksum_congr]
    simp only [byteSum_append, byteSum_cons]
    omega

end Sys2Proof.Machine

namespace Sys2Proof.Machine

/-! # The frame codec, and the responses a receiving step takes (41_frame_codec.md) -/

/-! ## 24-bit values as numbers (41_frame_codec.md R120) -/

/-- `dec24_enc24` with the three bytes written out. -/
@[simp] theorem dec24_bytes (v : Word24) :
    dec24 [v.extractLsb' 0 8, v.extractLsb' 8 8, v.extractLsb' 16 8] = v := dec24_enc24 v

/-- The bytes of a value are its base-256 digits, low first. -/
theorem enc24_toNat (v : Word24) :
    (enc24 v).map BitVec.toNat = [v.toNat % 256, v.toNat / 256 % 256, v.toNat / 65536] := by
  have hhigh : v.toNat / 65536 < 256 := by omega
  simpa [enc24, Nat.shiftRight_eq_div_pow] using hhigh

/-- The bytes are the digits of the value they decode to, so they make it up. -/
theorem dec24_toNat (b0 b1 b2 : Byte) :
    (dec24 [b0, b1, b2]).toNat = b0.toNat + 256 * b1.toNat + 65536 * b2.toNat := by
  have hdigits := enc24_toNat (dec24 [b0, b1, b2])
  rw [enc24_dec24] at hdigits
  simp only [List.map_cons, List.map_nil, List.cons.injEq, and_true] at hdigits
  omega

/-! ## Command frames -/

theorem encRd_eq_encBulk_iff (a : Byte) : encRd a = encBulk ↔ a = Config.bulkSub := by
  simp [encRd, encBulk]

/-! ## The checksum check of a response -/

/-- A decoder that refuses when the check fails accepts when the byte is the checksum (40_checksum.md R102). -/
theorem if_not_ckchk {α : Type} (bs : List Byte) (c : Byte) (x y : α) :
    (if !ckchk bs c then x else y) = if c = cksum bs then y else x := by
  by_cases hc : c = cksum bs <;> simp [ckchk, hc]

/-! ## `DEC_RD` (41_frame_codec.md R122) -/

/-- What `DEC_RD` answers for 4 bytes. -/
theorem decRd_four_bytes (a b0 b1 b2 b3 : Byte) :
    decRd a [b0, b1, b2, b3] =
      if b3 = cksum [0x58, a, b0, b1, b2] then .ok (dec24 [b0, b1, b2]) else .bad .readChecksum := by
  have hlen : ¬ [b0, b1, b2, b3].length < Config.rdRespLen := by simp [Config.rdRespLen]
  rw [decRd, if_neg hlen, if_not_ckchk]
  rfl

/-- `DEC_RD` gives back the value of a read response whose checksum is right. -/
theorem decRd_rdRespBytes (a : Byte) (v : Word24) (c : Byte) :
    decRd a (rdRespBytes v c) = if c = cksum ([0x58, a] ++ enc24 v) then .ok v else .bad .readChecksum := by
  have hfour := decRd_four_bytes a (v.extractLsb' 0 8) (v.extractLsb' 8 8) (v.extractLsb' 16 8) c
  rwa [dec24_bytes] at hfour

/-! ## `DEC_BULK` (41_frame_codec.md R128, R129) -/

/-- A bulk field is the value of the three bytes at its offset. -/
theorem bulkField_eq_dec24 (rs : List Byte) (o : Nat) :
    bulkField rs o = dec24 [rs.getD o 0, rs.getD (o + 1) 0, rs.getD (o + 2) 0] := by
  simp [bulkField, dec24, List.getD_eq_getElem?_getD, List.getElem?_drop]

/-- What `DEC_BULK` answers for 35 bytes. -/
theorem decBulk_of_length {rs : List Byte} (h : rs.length = 35) :
    decBulk rs =
      if rs.getD 34 0 = cksum ([0x58] ++ rs.take 34) then .ok (fieldsOf (bulkFrameOf rs)) else .bad .readChecksum := by
  have hlen : ¬ rs.length < Config.bulkRespLen := by simp [h, Config.bulkRespLen]
  rw [decBulk, if_neg hlen, if_not_ckchk]
  rfl

/-- The fields of a bulk response's bytes are those it was laid out from (30_encoding.md R76). -/
@[simp] theorem bulkFrameOf_bulkRespBytes (f : BulkFrame) : bulkFrameOf (bulkRespBytes f) = f := by
  simp [bulkFrameOf, bulkField, bulkRespBytes, enc24]

/-- `DEC_BULK` gives back the seven fields of a bulk response whose checksum is right. -/
theorem decBulk_bulkRespBytes_ok {f : BulkFrame} (h : bulkChecksumOk f) :
    decBulk (bulkRespBytes f) = .ok (fieldsOf f) := by
  rw [decBulk_of_length (bulkRespBytes_length f), bulkFrameOf_bulkRespBytes]
  exact if_pos h

theorem decBulk_bulkRespBytes_bad {f : BulkFrame} (h : ¬ bulkChecksumOk f) :
    decBulk (bulkRespBytes f) = .bad .readChecksum := by
  rw [decBulk_of_length (bulkRespBytes_length f)]
  exact if_neg h

/-! ## The end of a `READ_TXN` -/

/-- A read-back compares the value read with the one written (44_sequencer.md R203). -/
theorem readDone_wrVerify {up : List SeqStep} (hup : up = [] ∨ up = [.asWrite]) (t : Txn) (s : State) :
    readDone (up ++ [SeqStep.wrVerify]).reverse t s = some
      (if t.readBack = t.value then atSteps (up ++ [.wrRelock]) t s else toIdle (fail .writeVerify s)) := by
  obtain rfl | rfl := hup <;> by_cases heq : t.readBack = t.value <;> simp [readDone, heq]

section ReadResponse

variable {s : State} {t : Txn} {up : List SeqStep} {a c : Byte} {v : Word24}

/-- A read response with the right checksum goes to the transaction that encloses `RD_RECV`. -/
theorem exec_rdResp_of_checksum {u : State} (ht : s.txn = some t) (hsent : t.sent = [0x58, a])
    (hb : s.link.rxBuf = []) (hc : c = cksum ([0x58, a] ++ enc24 v)) (hs : s.seq = up ++ [.rdRecv])
    (hdone : readDone up.reverse { t with readBack := v }
      { s with link := { s.link with log := s.link.log ++ [.recv 4 500 (rdRespBytes v c)] } } = some u) :
    exec (.rdResp v c) s = .next u := by
  have hd : decRd (t.sent.getD 1 0) ((rdRespBytes v c).take 4) = .ok v := by
    rw [hsent]
    exact (decRd_rdRespBytes a v c).trans (if_pos hc)
  refine (arriveFrame_rdRecv_ok ht hb hs hd).2 ?_
  rwa [afterRecv_of_length_le hb (rdRespBytes_length v c).le]

/-- A read response with another checksum ends the command (60_exceptions.md R247). -/
theorem exec_rdResp_of_wrong_checksum (ht : s.txn = some t) (hsent : t.sent = [0x58, a])
    (hb : s.link.rxBuf = []) (hc : c ≠ cksum ([0x58, a] ++ enc24 v)) (hs : s.seq = up ++ [.rdRecv]) :
    exec (.rdResp v c) s = .next (readFailed up.reverse .readChecksum
      { s with link := { s.link with log := s.link.log ++ [.recv 4 500 (rdRespBytes v c)] } }) := by
  have hd : decRd (t.sent.getD 1 0) ((rdRespBytes v c).take 4) = .bad .readChecksum := by
    rw [hsent]
    exact (decRd_rdRespBytes a v c).trans (if_neg hc)
  rw [← afterRecv_of_length_le hb (rdRespBytes_length v c).le]
  exact arriveFrame_rdRecv_bad ht hb hs hd

end ReadResponse

/-! ## The statements -/

/-- Settles O43: a right checksum hands the value to the step that encloses `RD_RECV`, another one ends the command. -/
theorem readResponseTaken : Obligations.ReadResponseTaken := by
  unfold Obligations.ReadResponseTaken
  intro s t a c v up ht hsent hb
  refine ⟨fun hc hs => ?_, fun hc hs hup => ?_, fun hc hs => ?_, fun hc hs => ?_, fun hc hs => ?_⟩
  · exact exec_rdResp_of_checksum (up := []) ht hsent hb hc hs rfl
  · have hs' : s.seq = (up ++ [.wrVerify]) ++ [.rdRecv] := by simp [hs]
    refine exec_rdResp_of_checksum ht hsent hb hc hs' ((readDone_wrVerify hup _ _).trans ?_)
    by_cases hv : v = t.value <;> simp [hv, atSteps, toIdle, fail, rdRespBytes]
  · exact exec_rdResp_of_checksum (up := [.asRead]) ht hsent hb hc hs rfl
  · exact exec_rdResp_of_checksum (up := [.grAngle]) ht hsent hb hc hs rfl
  · rw [exec_rdResp_of_wrong_checksum ht hsent hb hc hs]
    by_cases hup : up = [] <;> simp [readFailed, hup, toIdle, fail, rdRespBytes]

/-- Settles O44: `GR_RECV` takes the 35 bytes of the frame and does what `DEC_BULK` says of them. -/
theorem bulkResponseTaken : Obligations.BulkResponseTaken := by
  unfold Obligations.BulkResponseTaken
  intro s t f hs ht hb
  have hlen := (bulkRespBytes_length f).le
  have harrive : exec (.bulkResp f) s = _ := arriveFrame_grRecv (bs := bulkRespBytes f) ht hb hs
  rw [afterRecv_of_length_le hb hlen, List.take_of_length_le hlen] at harrive
  refine ⟨fun hok => ?_, fun hbad => ?_⟩
  · rw [harrive, decBulk_bulkRespBytes_ok hok]
    rfl
  · rw [harrive, decBulk_bulkRespBytes_bad hbad]
    rfl

/-- Settles O4: the two directions are inverse, and the bytes are the value's digits. -/
theorem word24CodecRoundTrip : Obligations.Word24CodecRoundTrip :=
  ⟨dec24_enc24, enc24_dec24, dec24_toNat, enc24_toNat⟩

/-- Settles O7: `DEC_BULK` on 35 bytes checks the last one, and each of its fields is the value of three bytes. -/
theorem bulkResponseCheck : Obligations.BulkResponseCheck := by
  unfold Obligations.BulkResponseCheck
  intro rs
  refine ⟨decBulk_of_short, fun hlen hc => ?_, fun hlen hc => ?_⟩
  · rw [decBulk_of_length hlen, if_neg hc]
  · rw [decBulk_of_length hlen, if_pos hc]
    simp only [fieldsOf, bulkFrameOf, bulkField_eq_dec24]

/-- Settles O5: the triple of each answer of `DEC_RD`. -/
theorem readResponseCheck : Obligations.ReadResponseCheck := by
  unfold Obligations.ReadResponseCheck
  refine ⟨fun a rs hlen => ?_, fun a b0 b1 b2 b3 hc => ?_, fun a b0 b1 b2 => ?_⟩
  · rw [decRd_of_short hlen]
    rfl
  · rw [decRd_four_bytes, if_neg hc]
    rfl
  · rw [decRd_four_bytes, if_pos rfl]
    rfl

/-- Settles O6: the layout is the definition's; the frames of the rule are computed. -/
theorem writeFrameLayout : Obligations.WriteFrameLayout := by
  unfold Obligations.WriteFrameLayout
  exact ⟨fun _ _ => rfl, by decide, by decide, by decide, by decide⟩

/-- Settles O8: the two frames differ in their second byte alone. -/
theorem readCommandCollidesOnlyAtAA : Obligations.ReadCommandCollidesOnlyAtAA :=
  ⟨fun _ => rfl, rfl, encRd_eq_encBulk_iff⟩

end Sys2Proof.Machine

namespace Sys2Proof.Machine

/-! # The bit-field packer and the mode-register overlay (42_bitfield_packer.md)

Both are read bit by bit: a packed register's bit is the new value's inside the field and the old register's outside. -/

/-! ## The effective width (42_bitfield_packer.md R151) -/

theorem effw_le_width (off w : Nat) : effw off w ≤ w := by unfold effw; split <;> omega

theorem effw_eq_zero {off w : Nat} (h : w = 0 ∨ 32 ≤ off) : effw off w = 0 := by unfold effw; split <;> omega

theorem effw_of_fits {off w : Nat} (h : off + w ≤ 32) : effw off w = w := by unfold effw; split <;> omega

theorem effw_of_past {off w : Nat} (hoff : off < 32) (h : 32 ≤ off + w) : effw off w = 32 - off := by
  unfold effw; split <;> omega

/-! ## `PACK` (42_bitfield_packer.md R150) -/

/-- `PACK` sees its width only through `EFFW`. -/
theorem pack_congr_effw {off w w' : Nat} (h : effw off w = effw off w') (r val : Word32) :
    pack r off w val = pack r off w' val := by simp only [pack, fieldMask, h]

theorem pack_getLsbD_of_inside (r val : Word32) {off w i : Nat} (hlo : off ≤ i) (hhi : i < off + effw off w) :
    (pack r off w val).getLsbD i = val.getLsbD (i - off) := by
  have hi : i < 32 := by have := effw_le off w; omega
  rw [pack_getLsbD r val off w i hi, if_pos ⟨hlo, hhi⟩]

theorem pack_getLsbD_of_outside (r val : Word32) {off w i : Nat} (h : i < off ∨ off + effw off w ≤ i) :
    (pack r off w val).getLsbD i = r.getLsbD i := by
  by_cases hi : i < 32
  · rw [pack_getLsbD r val off w i hi, if_neg (by omega)]
  · rw [BitVec.getLsbD_of_ge _ i (by omega), BitVec.getLsbD_of_ge _ i (by omega)]

theorem pack_of_effw_eq_zero {off w : Nat} (h : effw off w = 0) (r val : Word32) : pack r off w val = r :=
  BitVec.eq_of_getLsbD_eq fun _ _ => pack_getLsbD_of_outside r val (by omega)

theorem pack_whole {w : Nat} (h : 32 ≤ w) (r val : Word32) : pack r 0 w val = val := by
  have hw : effw 0 w = 32 := effw_of_past (by omega) (by omega)
  exact BitVec.eq_of_getLsbD_eq fun i hi => pack_getLsbD_of_inside r val i.zero_le (by omega)

theorem pack_pack_same (r val : Word32) (off w : Nat) : pack (pack r off w val) off w val = pack r off w val := by
  refine BitVec.eq_of_getLsbD_eq fun i hi => ?_
  by_cases hin : off ≤ i ∧ i < off + effw off w
  · obtain ⟨hlo, hhi⟩ := hin
    rw [pack_getLsbD_of_inside _ _ hlo hhi, pack_getLsbD_of_inside _ _ hlo hhi]
  · exact pack_getLsbD_of_outside _ _ (by omega)

/-- R153 (d): each bit lies in at most one of the two fields, and both orders give it that field's value. -/
theorem pack_comm_of_disjoint {o1 w1 o2 w2 : Nat}
    (h : ∀ i, ¬ (o1 ≤ i ∧ i < o1 + effw o1 w1 ∧ o2 ≤ i ∧ i < o2 + effw o2 w2)) (r v1 v2 : Word32) :
    pack (pack r o1 w1 v1) o2 w2 v2 = pack (pack r o2 w2 v2) o1 w1 v1 := by
  refine BitVec.eq_of_getLsbD_eq fun i hi => ?_
  have hi12 := h i
  simp only [pack_getLsbD _ _ _ _ i hi]
  by_cases h2 : o2 ≤ i ∧ i < o2 + effw o2 w2
  · rw [if_pos h2, if_neg (by omega), if_pos h2]
  · rw [if_neg h2, if_neg h2]

/-! ## `FIELD` (42_bitfield_packer.md R154) -/

theorem field_getLsbD (r : Word32) (off w i : Nat) :
    (field r off w).getLsbD i = (decide (i < effw off w) && r.getLsbD (off + i)) := by
  rw [field, BitVec.getLsbD_and, BitVec.getLsbD_ushiftRight, BitVec.getLsbD_ofNat, Nat.shiftLeft_eq, one_mul,
    Nat.testBit_two_pow_sub_one, Bool.and_comm]
  by_cases hi : i < 32
  · simp [hi]
  · rw [BitVec.getLsbD_of_ge r (off + i) (by omega), Bool.and_false, Bool.and_false]

theorem field_pack_toNat (r val : Word32) (off w : Nat) :
    (field (pack r off w val) off w).toNat = val.toNat % 2 ^ effw off w := by
  refine Nat.eq_of_testBit_eq fun i => ?_
  rw [BitVec.testBit_toNat, field_getLsbD, Nat.testBit_mod_two_pow, BitVec.testBit_toNat]
  by_cases hi : i < effw off w
  · rw [pack_getLsbD_of_inside r val (off.le_add_right i) (by omega), Nat.add_sub_cancel_left]
  · simp [hi]

/-- A value of the field's own width is read back as it is. -/
theorem field_pack_zeroExtend {off k : Nat} (h : off + k ≤ 32) (r : Word32) (c : BitVec k) :
    field (pack r off k (c.zeroExtend 32)) off k = c.zeroExtend 32 := by
  have hc : c.toNat < 2 ^ k := c.isLt
  have hk : 2 ^ k ≤ 2 ^ 32 := Nat.pow_le_pow_right (by omega) (by omega)
  refine BitVec.eq_of_toNat_eq ?_
  rw [field_pack_toNat, effw_of_fits h, BitVec.toNat_setWidth, Nat.mod_eq_of_lt (hc.trans_le hk), Nat.mod_eq_of_lt hc]

/-- Packing one field leaves another one as it was. -/
theorem field_pack_of_fieldsApart {off w off' w' : Nat} (h : fieldsApart off w off' w' = true) (r val : Word32) :
    field (pack r off' w' val) off w = field r off w := by
  have hapart : off + w ≤ off' ∨ off' + w' ≤ off := by simpa [fieldsApart] using h
  have hw := effw_le_width off w
  have hw' := effw_le_width off' w'
  refine BitVec.eq_of_getLsbD_eq fun i _ => ?_
  rw [field_getLsbD, field_getLsbD]
  by_cases hi : i < effw off w
  · rw [pack_getLsbD_of_outside r val (by omega)]
  · simp [hi]

/-! ## The host's filter codes (10_state.md R31) -/

theorem cfgIFilt_eq_iff (cfg : BitVec 6) (code : BitVec 2) : cfgIFilt cfg = code ↔ cfg.toNat % 4 = code.toNat := by
  rw [← BitVec.toNat_inj, cfgIFilt, BitVec.extractLsb'_toNat, Nat.shiftRight_zero]

theorem cfgVFilt_eq_iff (cfg : BitVec 6) (code : BitVec 2) :
    cfgVFilt cfg = code ↔ cfg.toNat / 4 % 4 = code.toNat := by
  rw [← BitVec.toNat_inj, cfgVFilt, BitVec.extractLsb'_toNat, Nat.shiftRight_eq_div_pow]

/-! ## The layout of the mode register (42_bitfield_packer.md R156) -/

/-- The part of R156 that is about places: the four fields lie in bits 23:0, each apart from the later ones. -/
structure ModeParams.Layout (p : ModeParams) : Prop where
  iFilt_fits : p.iFiltOff + 2 ≤ 24
  vFilt_fits : p.vFiltOff + 2 ≤ 24
  avg_fits : p.avgOff + 1 ≤ 24
  freq_fits : p.freqOff + 1 ≤ 24
  iFilt_vFilt : fieldsApart p.iFiltOff 2 p.vFiltOff 2 = true
  iFilt_avg : fieldsApart p.iFiltOff 2 p.avgOff 1 = true
  iFilt_freq : fieldsApart p.iFiltOff 2 p.freqOff 1 = true
  vFilt_avg : fieldsApart p.vFiltOff 2 p.avgOff 1 = true
  vFilt_freq : fieldsApart p.vFiltOff 2 p.freqOff 1 = true
  avg_freq : fieldsApart p.avgOff 1 p.freqOff 1 = true

theorem ModeParams.layout_of_legal {p : ModeParams} (h : p.legal = true) : p.Layout := by
  simp only [ModeParams.legal, Bool.and_eq_true, decide_eq_true_eq, and_assoc] at h
  obtain ⟨hi, hv, ha, hf, hiv, hia, hif, hva, hvf, haf, -⟩ := h
  exact ⟨hi, hv, ha, hf, hiv, hia, hif, hva, hvf, haf⟩

/-! ## `MODE_OVERLAY` (42_bitfield_packer.md R157): what each field holds, and what is kept -/

theorem modeOverlay_getLsbD_of_outside (p : ModeParams) (res : BitVec 2) (m : Word32) (cfg : BitVec 6) {i : Nat}
    (hi : i < p.iFiltOff ∨ p.iFiltOff + 2 ≤ i) (hv : i < p.vFiltOff ∨ p.vFiltOff + 2 ≤ i)
    (ha : i ≠ p.avgOff) (hf : i ≠ p.freqOff) :
    (modeOverlay p res m cfg).getLsbD i = m.getLsbD i := by
  have hwi := effw_le_width p.iFiltOff 2
  have hwv := effw_le_width p.vFiltOff 2
  have hwa := effw_le_width p.avgOff 1
  have hwf := effw_le_width p.freqOff 1
  rw [modeOverlay, pack_getLsbD_of_outside _ _ (by omega), pack_getLsbD_of_outside _ _ (by omega),
    pack_getLsbD_of_outside _ _ (by omega), pack_getLsbD_of_outside _ _ (by omega)]

section Overlay
/-! The fields are those of a register laid out as R156 says. -/

variable {p : ModeParams} (hp : p.Layout) (res : BitVec 2) (m : Word32) (cfg : BitVec 6)
include hp

theorem modeOverlay_iFilt :
    field (modeOverlay p res m cfg) p.iFiltOff 2 = (encFilt p res (cfgIFilt cfg)).zeroExtend 32 := by
  have hfits := hp.iFilt_fits
  rw [modeOverlay, field_pack_of_fieldsApart hp.iFilt_freq, field_pack_of_fieldsApart hp.iFilt_avg,
    field_pack_of_fieldsApart hp.iFilt_vFilt, field_pack_zeroExtend (by omega)]

theorem modeOverlay_vFilt :
    field (modeOverlay p res m cfg) p.vFiltOff 2 = (encFilt p res (cfgVFilt cfg)).zeroExtend 32 := by
  have hfits := hp.vFilt_fits
  rw [modeOverlay, field_pack_of_fieldsApart hp.vFilt_freq, field_pack_of_fieldsApart hp.vFilt_avg,
    field_pack_zeroExtend (by omega)]

theorem modeOverlay_avg :
    field (modeOverlay p res m cfg) p.avgOff 1 = (encAvg p (cfgAvg cfg)).zeroExtend 32 := by
  have hfits := hp.avg_fits
  rw [modeOverlay, field_pack_of_fieldsApart hp.avg_freq, field_pack_zeroExtend (by omega)]

theorem modeOverlay_freq :
    field (modeOverlay p res m cfg) p.freqOff 1 = (encFreq p (cfgFreq cfg)).zeroExtend 32 := by
  have hfits := hp.freq_fits
  rw [modeOverlay, field_pack_zeroExtend (by omega)]

/-- R158: the overlay of a 24-bit value has 24 bits, since no field reaches bit 24. -/
theorem modeOverlay_lt (hm : m.toNat < 2 ^ 24) : (modeOverlay p res m cfg).toNat < 2 ^ 24 := by
  obtain ⟨hi, hv, ha, hf, -⟩ := hp
  refine Nat.lt_pow_two_of_testBit _ fun i h24 => ?_
  rw [BitVec.testBit_toNat,
    modeOverlay_getLsbD_of_outside p res m cfg (by omega) (by omega) (by omega) (by omega), ← BitVec.testBit_toNat]
  exact Nat.testBit_lt_two_pow (hm.trans_le (Nat.pow_le_pow_right (by omega) h24))

/-- R158: nothing of the overlay is lost in the 24 bits `APPLY_SETTINGS` writes. -/
theorem modeWriteValue_zeroExtend (m24 : Word24) :
    (modeWriteValue p res m24 cfg).zeroExtend 32 = modeOverlay p res (m24.zeroExtend 32) cfg := by
  have hm : (m24.zeroExtend 32).toNat < 2 ^ 24 := by
    rw [BitVec.toNat_setWidth]
    omega
  have hlt := modeOverlay_lt hp res _ cfg hm
  refine BitVec.eq_of_toNat_eq ?_
  rw [modeWriteValue, BitVec.toNat_setWidth, BitVec.extractLsb'_toNat, Nat.shiftRight_zero, Nat.mod_eq_of_lt hlt]
  omega

end Overlay

/-! ## The statements -/

/-- Settles O9: each clause from the bits of `PACK` and `FIELD`. -/
theorem packerProperties : Obligations.PackerProperties :=
  ⟨fun r val _ _ h => pack_of_effw_eq_zero (effw_eq_zero h) r val,
    fun r val _ h => pack_whole h r val,
    fun r val _ _ hoff h =>
      pack_congr_effw ((effw_of_past hoff h.le).trans (effw_of_past hoff (by omega)).symm) r val,
    fun r val _ _ _ h => pack_getLsbD_of_outside r val h,
    field_pack_toNat,
    pack_pack_same,
    fun r v1 v2 _ _ _ _ h => pack_comm_of_disjoint h r v1 v2⟩

/-- Settles O10: of the four packs the last one into a field gives its value, and no pack reaches the other bits. -/
theorem modeOverlaySetsFourFields : Obligations.ModeOverlaySetsFourFields := by
  unfold Obligations.ModeOverlaySetsFourFields
  intro p res m cfg hlegal
  have hp := ModeParams.layout_of_legal hlegal
  have hiFilt (code : BitVec 2) (h : cfg.toNat % 4 = code.toNat) :
      field (modeOverlay p res m cfg) p.iFiltOff 2 = (encFilt p res code).zeroExtend 32 := by
    rw [modeOverlay_iFilt hp, (cfgIFilt_eq_iff cfg code).2 h]
  have hvFilt (code : BitVec 2) (h : cfg.toNat / 4 % 4 = code.toNat) :
      field (modeOverlay p res m cfg) p.vFiltOff 2 = (encFilt p res code).zeroExtend 32 := by
    rw [modeOverlay_vFilt hp, (cfgVFilt_eq_iff cfg code).2 h]
  exact ⟨hiFilt 0, hiFilt 1, hiFilt 2, hvFilt 0, hvFilt 1, hvFilt 2,
    modeOverlay_avg hp res m cfg, modeOverlay_freq hp res m cfg,
    fun _ hi hv ha hf => modeOverlay_getLsbD_of_outside p res m cfg hi hv ha hf,
    modeOverlay_lt hp res m cfg, modeWriteValue_zeroExtend hp res cfg⟩

end Sys2Proof.Machine

namespace Sys2Proof.Machine

/-! # The scaler and the readings (43_scaler.md)

Each exact value is a fixed factor times the raw register, so its range follows from the register's. The snapshot of a
successful `GET_READINGS` is the scaler's for the registers it commits, and `CFG` enters it through `FREQ` alone. -/

/-! ## Inputs of the formulas -/

/-- A calibration register's value is positive (10_state.md R35). -/
theorem f64Val_pos_of_calLegal {w : Word64} (h : calLegal w = true) : 0 < f64Val w :=
  ((calibrationLegalIffFinitePositive w).1 h).2

theorem cast_word24_le (raw : Word24) : (raw.toNat : ℚ) ≤ 16777215 := by
  exact_mod_cast Nat.le_of_lt_succ raw.isLt

/-- The phase-angle register contributes its low 16 bits (43_scaler.md R179). -/
@[simp] theorem angleBits_toNat (raw : Word24) : (angleBits raw).toNat = raw.toNat % 65536 := by
  simp [angleBits]

/-- `ANGLE_FRAC` of the register as 43_scaler.md R179 writes it, with the line frequency `CFG.FREQ` selects (R182). -/
theorem angleFrac_angleBits (raw : Word24) (c : BitVec 6) :
    angleFrac (angleBits raw) (cfgFreq c) =
      ((raw.toNat % 65536 : Nat) : ℚ) * (if c.getLsbD 5 then 60 else 50) / 1000000 := by
  rw [angleFrac, angleBits_toNat, lineFreq, cfgFreq, Config.fsAngle]

@[simp] theorem lineFreq_false : lineFreq false = 50 := rfl
@[simp] theorem lineFreq_true : lineFreq true = 60 := rfl

/-! ## The calibration constants (43_scaler.md R171) -/

theorem kv_eq : kv = 609 / 39965500000 := by norm_num [kv, Config.vref, Config.kvDen]

theorem ki_eq : ki = 609 / 162002000000 := by norm_num [ki, Config.vref, Config.kiDen]

theorem kp_eq : kp = 52983 / 144500000000000 := by norm_num [kp, Config.vref, Config.kpDen]

theorem ke_eq : ke = 47096 / 1102447509765625 := by norm_num [ke, kp_eq, Config.ePulse, Config.eDen]

/-! ## Ranges (43_scaler.md R183) -/

/-- A 24-bit register times a factor that is not negative lies between 0 and the largest register's product. -/
theorem word24_mul_range (raw : Word24) {k : ℚ} (hk : 0 ≤ k) :
    0 ≤ (raw.toNat : ℚ) * k ∧ (raw.toNat : ℚ) * k ≤ 16777215 * k :=
  ⟨by positivity, mul_le_mul_of_nonneg_right (cast_word24_le raw) hk⟩

/-- The temperature is affine in the register: 43_scaler.md R178 multiplied out. -/
theorem scaleTExact_eq_affine (raw : Word24) : scaleTExact raw = 85 / 448 * (raw.toNat : ℚ) - 400 / 7 := by
  rw [scaleTExact, Config.tA, Config.tB, Config.tC, Config.tD]
  ring

theorem scaleTExact_range (raw : Word24) : -(400 / 7) ≤ scaleTExact raw ∧ scaleTExact raw ≤ 1426037675 / 448 := by
  have hlo : (0 : ℚ) ≤ raw.toNat := Nat.cast_nonneg _
  have hhi := cast_word24_le raw
  rw [scaleTExact_eq_affine]
  constructor <;> linarith

/-- The largest cycle fraction is that of 65535 at 60 Hz. -/
theorem angleFrac_range (a : BitVec 16) (freq : Bool) : 0 ≤ angleFrac a freq ∧ angleFrac a freq ≤ 39321 / 10000 := by
  have hlo : (0 : ℚ) ≤ a.toNat := Nat.cast_nonneg _
  have hhi : (a.toNat : ℚ) ≤ 65535 := by exact_mod_cast Nat.le_of_lt_succ a.isLt
  rw [angleFrac, Config.fsAngle]
  cases freq with
  | false => rw [lineFreq_false]; constructor <;> linarith
  | true => rw [lineFreq_true]; constructor <;> linarith

theorem scaleAngleExact_range {frac : ℚ} (h : 0 ≤ frac ∧ frac ≤ 39321 / 10000) :
    0 ≤ scaleAngleExact frac ∧ scaleAngleExact frac ≤ 1415556 / 1000 := by
  obtain ⟨hlo, hhi⟩ := h
  rw [scaleAngleExact]
  constructor <;> linarith

/-! ## A state with another `CFG` (43_scaler.md R182) -/

/-- `s` with another `CFG`. -/
def State.withCfg (s : State) (c : BitVec 6) : State := { s with cfg := c }

@[simp] theorem sendFrame_withCfg (f : List Byte) (s : State) (c : BitVec 6) :
    sendFrame f (s.withCfg c) = ((sendFrame f s).1, (sendFrame f s).2.withCfg c) := rfl

@[simp] theorem rxRecv_withCfg (n : Nat) (s : State) (c : BitVec 6) :
    rxRecv n (s.withCfg c) = ((rxRecv n s).1, (rxRecv n s).2.withCfg c) := rfl

@[simp] theorem fail_withCfg (k : ErrKind) (s : State) (c : BitVec 6) :
    fail k (s.withCfg c) = (fail k s).withCfg c := rfl

@[simp] theorem toIdle_withCfg (s : State) (c : BitVec 6) : toIdle (s.withCfg c) = (toIdle s).withCfg c := rfl

@[simp] theorem acceptCommand_withCfg (w : Word64) (s : State) (c : BitVec 6) :
    acceptCommand w (s.withCfg c) = (acceptCommand w s).withCfg c := rfl

/-- The commit reads `CFG.FREQ` and no other bit of `CFG`. -/
theorem commit_withCfg (f : BulkFields) (ra : Word24) {s : State} {c : BitVec 6} (h : cfgFreq c = cfgFreq s.cfg) :
    commit f ra (s.withCfg c) = (commit f ra s).withCfg c := by
  simp only [commit, State.withCfg, h]

/-- A read transaction does not look at `CFG`. -/
@[simp] theorem readTxn_withCfg (a : Byte) (s : State) (c : BitVec 6) :
    readTxn a (s.withCfg c) = ((readTxn a s).1, (readTxn a s).2.withCfg c) := by
  simp only [readTxn, sendFrame_withCfg]
  rcases sendFrame (encRd a) s with ⟨_ | _, s₁⟩
  · rfl
  · simp only [rxRecv_withCfg]
    cases decRd a (rxRecv Config.rdRespLen s₁).1 <;> rfl

/-- A read transaction leaves `CFG` as it is. -/
theorem readTxn_cfg (a : Byte) (s : State) : (readTxn a s).2.cfg = s.cfg := by
  obtain ⟨k, l, h, -, -⟩ := readTxn_frame a s
  rw [h, withErrLink_cfg]

/-- `GET_TXN` looks at `CFG` in its commit alone, whose `CFG` is still that of the start. -/
theorem getTxn_withCfg {s : State} {c : BitVec 6} (h : cfgFreq c = cfgFreq s.cfg) :
    getTxn (s.withCfg c) = ((getTxn s).1, (getTxn s).2.withCfg c) := by
  rcases hs : sendFrame encBulk s with ⟨_ | _, s₁⟩
  · simp only [getTxn, sendFrame_withCfg, hs, fail_withCfg]
  · have hcfg : s₁.cfg = s.cfg := congrArg (·.2.cfg) hs.symm
    rw [getTxn_sent s s₁ hs, getTxn_sent (s.withCfg c) (s₁.withCfg c) (by rw [sendFrame_withCfg, hs])]
    simp only [rxRecv_withCfg]
    cases decBulk (rxRecv 35 s₁).1 with
    | bad k => rfl
    | ok f =>
      have hread := readTxn_cfg Config.angleAddr (rxRecv 35 s₁).2
      simp only [readTxn_withCfg]
      rcases hr : readTxn Config.angleAddr (rxRecv 35 s₁).2 with ⟨_ | ra, s₂⟩
      · rfl
      · rw [hr, rxRecv_cfg, hcfg] at hread
        have hfreq : cfgFreq c = cfgFreq s₂.cfg := h.trans (congrArg cfgFreq hread.symm)
        simp only [commit_withCfg f ra hfreq]

theorem exec_getReadings (s : State) :
    exec .getReadings s = .next (hcGetReadings (acceptCommand (cmdWord opcGetReadings 0) s)) := rfl

/-! ## The statements -/

/-- Settles O12: a 24-bit register times a factor that legal calibrations make positive, the affine temperature, and
the cycle fraction of at most 65535 samples; the cosine's bounds are Mathlib's. -/
theorem scalerRanges : Obligations.ScalerRanges := by
  unfold Obligations.ScalerRanges
  refine ⟨fun raw div rsh hdiv hrsh => ?_, scaleTExact_range, fun a freq =>
    ⟨angleFrac_range a freq, scaleAngleExact_range (angleFrac_range a freq), Real.neg_one_le_cos _, Real.cos_le_one _⟩⟩
  have hd := f64Val_pos_of_calLegal hdiv
  have hr := f64Val_pos_of_calLegal hrsh
  have hkv : 0 < kv := by rw [kv_eq]; norm_num
  have hki : 0 < ki := by rw [ki_eq]; norm_num
  have hkp : 0 < kp := by rw [kp_eq]; norm_num
  have hke : 0 < ke := by rw [ke_eq]; norm_num
  simp only [scaleVExact, scaleIExact, scalePExact, scaleEExact, mul_assoc, mul_div_assoc]
  exact ⟨word24_mul_range raw (by positivity), word24_mul_range raw (by positivity),
    word24_mul_range raw (by positivity), word24_mul_range raw (by positivity)⟩

/-- Settles O36: `ERR = None` leaves only the run that commits, and what it commits is the conforming scaler's output
for the registers it commits (log entry 12). -/
theorem snapshotConformsToFormulas : Obligations.SnapshotConformsToFormulas := by
  unfold Obligations.SnapshotConformsToFormulas
  intro s t hdiv hrsh hexec herr
  rw [exec_getReadings] at hexec
  cases hexec
  rcases hcGetReadings_acceptCommand (cmdWord opcGetReadings 0) s with ⟨k, l, hk, h⟩ | ⟨f, ra, l, h⟩ <;>
    rw [h] at herr ⊢
  · exact absurd herr hk
  · simp only [commandDone_snap, commandDone_raw, commandDone_angleRaw, commit_snap, commit_raw, commit_angleRaw,
      ← angleFrac_angleBits]
    exact ⟨Config.scaler.v_conforms f.v _ hdiv, Config.scaler.i_conforms f.i _ hrsh,
      Config.scaler.p_conforms f.p _ _ hdiv hrsh, Config.scaler.e_conforms f.cnt _ _ hdiv hrsh,
      Config.scaler.t_conforms f.tInt, Config.scaler.angle_conforms _ _, Config.scaler.pf_conforms _ _⟩

/-- Settles O39: every part of the command commutes with a change of `CFG` that keeps `FREQ`. -/
theorem readingsDependOnFreqOnly : Obligations.ReadingsDependOnFreqOnly := by
  unfold Obligations.ReadingsDependOnFreqOnly
  intro s t c hfreq hexec
  rw [exec_getReadings] at hexec
  cases hexec
  have hget := getTxn_withCfg (s := acceptCommand (cmdWord opcGetReadings 0) s) hfreq
  change exec .getReadings (s.withCfg c) = .next (State.withCfg _ c)
  rw [exec_getReadings, hcGetReadings, acceptCommand_withCfg, hget, toIdle_withCfg, hcGetReadings]

/-- Settles O11: the source's constants multiplied out. -/
theorem calibrationConstants : Obligations.CalibrationConstants :=
  ⟨kv_eq, ki_eq, kp_eq, ke_eq, rfl⟩

end Sys2Proof.Machine

namespace Sys2Proof.Machine

/-! # The host commands and the sequencer (44_sequencer.md) -/

/-! ## The write of a command word (R200) -/

/-- A word without reserved bits is made up of its opcode and its address. -/
theorem cmdWord_of_reserved {w : Word64} (h : cmdReserved w = 0) : cmdWord (cmdOpc w) (cmdAddr w) = w := by
  ext i hi
  have hw := BitVec.getLsbD_eq_getElem (x := w) hi
  obtain h8 | ⟨h8, h16⟩ | h16 : i < 8 ∨ (8 ≤ i ∧ i < 16) ∨ 16 ≤ i := by omega
  · simp [cmdWord, cmdOpc, h8, hi]
  · simp [cmdWord, cmdOpc, cmdAddr, hi, h8, Nat.not_lt.2 h8, show i - 8 < 8 by omega, show 8 + (i - 8) = i by omega]
  · have hres : (cmdReserved w).getLsbD (i - 16) = false := by simp [h]
    have hbit : w[i] = false := by
      simpa [cmdReserved, show i - 16 < 48 by omega, show 16 + (i - 16) = i by omega, hw] using hres
    simp [cmdWord, cmdOpc, cmdAddr, hi, show ¬ i < 8 by omega, show ¬ i - 8 < 8 by omega, hbit]

/-- The write of a legal word to `CMD` completes as a command with that word. -/
theorem hostWriteCmd_of_legal {w : Word64} (hw : illegalCmd w = false) (s : State) :
    ∃ s' k l, hostWriteCmd w s = State.commandDone s' w k l := by
  have hrefused : ¬ refusedWrite (.csrwCmd w) := (RunsWord.csrwCmd hw).not_refusedWrite
  have heff := hostEffect_hostWriteCmd w s
  generalize hostWriteCmd w s = t at heff ⊢
  cases heff with
  | refused hi => exact absurd hi hrefused
  | errOnly hi | readReg hi | readings hi => cases hi; exact ⟨_, _, _, rfl⟩

theorem cmdOpc_eq_iff (w : Word64) (opc : Byte) : cmdOpc w = opc ↔ w.toNat % 256 = opc.toNat := by
  rw [← BitVec.toNat_inj, cmdOpc_toNat]

/-- The write of a legal word does what the instruction it decodes to does. -/
theorem exec_decodeCommand {w : Word64} (hw : illegalCmd w = false) (s : State) :
    exec (decodeCommand w) s = .next (hostWriteCmd w s) := by
  obtain ⟨hres, hform⟩ := (illegalCmd_eq_false_iff w).1 hw
  have hword := cmdWord_of_reserved hres
  unfold decodeCommand hostWriteCmd
  simp only [hw, Bool.false_eq_true, if_false]
  split
  case isTrue ho => rw [ho] at hword; rw [exec, execReadReg, hword]
  case isFalse hread =>
    split
    case isTrue ho => rw [ho] at hword; rw [exec, execWriteReg, hword]
    case isFalse hwrite =>
      obtain ⟨ho, ha⟩ := (hform.resolve_left hread).resolve_left hwrite
      rw [ha] at hword
      split
      case isTrue ho => rw [ho] at hword; rw [exec, execApplySettings, hword]
      case isFalse happly => rw [ho.resolve_left happly] at hword; rw [exec, execGetReadings, hword]

/-! ## The slots a host reads, and the check of a `CFG` write (R213, R216) -/

/-- The check of a `CFG` write as arithmetic on the word written. -/
theorem cfgLegal_iff (w : Word64) :
    cfgLegal (w.extractLsb' 0 6) = true ↔ w.toNat % 4 ≠ 3 ∧ w.toNat / 4 % 4 ≠ 3 := by
  have hbits : (w.extractLsb' 0 6).toNat = w.toNat % 64 := by simp
  have hthree : (3 : BitVec 2).toNat = 3 := rfl
  simp only [cfgLegal, Bool.and_eq_true, bne_iff_ne, ne_eq, cfgIFilt_eq_iff, cfgVFilt_eq_iff, hbits, hthree]
  omega

/-- A register's unused high bits read 0 (10_state.md R22). -/
theorem toNat_zeroExtend_64 {n : Nat} (h : n ≤ 64) (v : BitVec n) : (v.zeroExtend 64).toNat = v.toNat := by
  rw [BitVec.zeroExtend, BitVec.toNat_setWidth]
  exact Nat.mod_eq_of_lt (v.isLt.trans_le (Nat.pow_le_pow_right (by omega) h))

theorem csrRead_unimplemented {idx : Byte} (h : idx = 0x0F ∨ 0x18 ≤ idx.toNat) (s : State) : csrRead idx s = 0 := by
  unfold csrRead
  split
  case h_24 => rfl
  all_goals simp at h -- an implemented index

theorem statusWord_toNat (ill snapValid : Bool) :
    (statusWord ill snapValid).toNat = ill.toNat + 2 * snapValid.toNat := by
  cases ill <;> cases snapValid <;> rfl

/-! ## Transactions whose answers are given (R202 to R206)

Every such transaction leads to a state `State.ran`, whose calls one can read off the answers. -/

/-- `s` after the transport calls `calls`, which end with the error kind `k`, nothing in the receive buffer and the
answers `as` and `ar` still to come. -/
def State.ran (s : State) (k : ErrKind) (as : List Bool) (ar : List (List Byte)) (calls : List Call) : State :=
  s.withErrLink k (s.link.after as ar calls)

section Ran

variable (s : State) (k : ErrKind) (as : List Bool) (ar : List (List Byte)) (calls : List Call)

@[simp] theorem ran_err : (s.ran k as ar calls).err = k := rfl
@[simp] theorem ran_sendAnswers : (s.ran k as ar calls).link.sendAnswers = as := rfl
@[simp] theorem ran_arrivals : (s.ran k as ar calls).link.arrivals = ar := rfl
@[simp] theorem fail_ran (k' : ErrKind) : fail k' (s.ran k as ar calls) = s.ran k' as ar calls := rfl
@[simp] theorem overlaidMode_ran (m : Word24) : overlaidMode m (s.ran k as ar calls) = overlaidMode m s := rfl

@[simp] theorem ran_ran (k' : ErrKind) (as' : List Bool) (ar' : List (List Byte)) (calls' : List Call) :
    (s.ran k as ar calls).ran k' as' ar' calls' = s.ran k' as' ar' (calls ++ calls') := by
  simp [State.ran, State.withErrLink, Link.after]

@[simp] theorem toIdle_ran_acceptCommand (w : Word64) :
    toIdle ((acceptCommand w s).ran k as ar calls) = s.commandDone w k (s.link.after as ar calls) := rfl

end Ran

section Answered

variable {s : State} {ok : Bool} {as : List Bool} {bs : List Byte} {ar : List (List Byte)}

/-- `SEND_FRAME` with its answer given (R204). -/
theorem sendFrame_answered (h : s.link.sendAnswers = ok :: as) (f : List Byte) :
    sendFrame f s = (ok, s.ran s.err as s.link.arrivals [.flush, .send f ok]) := by
  obtain ⟨ok', hok, hs⟩ := sendFrame_spec f s
  obtain rfl := hok ok as h
  rw [hs, h]
  rfl

/-- A receive after earlier calls, all of what arrives being asked for. -/
theorem rxRecv_ran (s : State) (k : ErrKind) (as : List Bool) (ar : List (List Byte)) (calls : List Call) {n : Nat}
    (h : bs.length ≤ n) :
    rxRecv n (s.ran k as (bs :: ar) calls) = (bs, s.ran k as ar (calls ++ [.recv n 500 bs])) := by
  obtain ⟨xs, hxs, hr⟩ := rxRecv_spec n (s.ran k as (bs :: ar) calls)
  obtain rfl := hxs bs ar rfl
  rw [hr]
  simp [State.ran, State.withErrLink, Link.after, h]

theorem readTxn_unsent (h : s.link.sendAnswers = false :: as) (a : Byte) :
    readTxn a s = (none, s.ran .writeSend as s.link.arrivals [.flush, .send (encRd a) false]) := by
  simp only [readTxn, sendFrame_answered h, fail_ran]

theorem readTxn_bad {a : Byte} {k : ErrKind} (h : s.link.sendAnswers = true :: as) (har : s.link.arrivals = bs :: ar)
    (hlen : bs.length ≤ 4) (hd : decRd a bs = .bad k) :
    readTxn a s = (none, s.ran k as ar [.flush, .send (encRd a) true, .recv 4 500 bs]) := by
  simp [readTxn, sendFrame_answered h, har, Config.rdRespLen, rxRecv_ran _ _ _ _ _ hlen, hd]

/-- The valid response for `v` passes the checks and gives `v`. -/
theorem decRd_readResponse (a : Byte) (v : Word24) : decRd a (readResponse a v) = .ok v :=
  (decRd_rdRespBytes a v _).trans (if_pos rfl)

theorem readTxn_valid {a : Byte} {v : Word24} (h : s.link.sendAnswers = true :: as)
    (har : s.link.arrivals = readResponse a v :: ar) :
    readTxn a s = (some v, s.ran s.err as ar [.flush, .send (encRd a) true, .recv 4 500 (readResponse a v)]) := by
  have hlen : (readResponse a v).length ≤ 4 := (rdRespBytes_length v _).le
  simp [readTxn, sendFrame_answered h, har, Config.rdRespLen, rxRecv_ran _ _ _ _ _ hlen, decRd_readResponse]

/-! `WRITE_TXN` (44_sequencer.md R203) -/

theorem encWr_unlock : encWr Config.wpAddr Config.unlockCode = unlockFrame := by decide

theorem encWr_lock : encWr Config.wpAddr Config.lockCode = lockFrame := by decide

/-- A read-back that fails ends the write. -/
theorem verifyTxn_of_readTxn_none {a : Byte} {s' : State} (h : readTxn a s = (none, s')) (v : Word24) :
    verifyTxn a v s = (false, s') := by
  simp only [verifyTxn, h]

/-- A read-back of another value ends the write. -/
theorem verifyTxn_of_ne {a : Byte} {v rb : Word24} {s' : State} (h : readTxn a s = (some rb, s')) (hv : rb ≠ v) :
    verifyTxn a v s = (false, fail .writeVerify s') := by
  simp only [verifyTxn, h, if_pos hv]

/-- A read-back of the value written is followed by the relock. -/
theorem verifyTxn_of_eq {a : Byte} {v : Word24} {s' : State} (h : readTxn a s = (some v, s')) :
    verifyTxn a v s = (true, (sendFrame lockFrame s').2) := by
  simp [verifyTxn, h, encWr_lock]

/-- The write-protect register is written by one send. -/
theorem writeTxn_wpAddr (h : s.link.sendAnswers = ok :: as) (v : Word24) :
    writeTxn Config.wpAddr v s = (ok, s.ran (if ok then s.err else .writeSend) as s.link.arrivals
      [.flush, .send (encWr Config.wpAddr v) ok]) := by
  cases ok <;> simp [writeTxn, writeTail, sendFrame_answered h]

theorem writeTxn_unlock_unsent {a : Byte} (ha : a ≠ Config.wpAddr) (h : s.link.sendAnswers = false :: as)
    (v : Word24) :
    writeTxn a v s = (false, s.ran .writeSend as s.link.arrivals [.flush, .send unlockFrame false]) := by
  simp [writeTxn, ha, sendFrame_answered h, encWr_unlock]

theorem writeTxn_write_unsent {a : Byte} (ha : a ≠ Config.wpAddr) (h : s.link.sendAnswers = true :: false :: as)
    (v : Word24) :
    writeTxn a v s = (false, s.ran .writeSend as s.link.arrivals
      [.flush, .send unlockFrame true, .flush, .send (encWr a v) false]) := by
  simp [writeTxn, ha, sendFrame_answered h, encWr_unlock, writeTail, sendFrame_answered (ran_sendAnswers ..)]

/-- A write whose unlock and write frames are sent goes on to the read-back. -/
theorem writeTxn_written {a : Byte} (ha : a ≠ Config.wpAddr) (v : Word24)
    (h : s.link.sendAnswers = true :: true :: as) :
    writeTxn a v s = verifyTxn a v (s.ran s.err as s.link.arrivals
      [.flush, .send unlockFrame true, .flush, .send (encWr a v) true]) := by
  simp [writeTxn, ha, sendFrame_answered h, encWr_unlock, writeTail, sendFrame_answered (ran_sendAnswers ..)]

/-- A write all of whose frames are sent, and whose read-back is the value written; the relock's answer is free
(70_reset_and_hazards.md R280). -/
theorem writeTxn_verified {a : Byte} {v : Word24} {relock : Bool} (ha : a ≠ Config.wpAddr)
    (h : s.link.sendAnswers = true :: true :: true :: relock :: as) (har : s.link.arrivals = readResponse a v :: ar) :
    writeTxn a v s = (true, s.ran s.err as ar [.flush, .send unlockFrame true, .flush, .send (encWr a v) true,
      .flush, .send (encRd a) true, .recv 4 500 (readResponse a v), .flush, .send lockFrame relock]) := by
  rw [writeTxn_written ha v h, verifyTxn_of_eq (readTxn_valid (ran_sendAnswers ..) har),
    sendFrame_answered (ran_sendAnswers ..)]
  simp

/-! Each failure of the read-back ends the write. -/

theorem writeTxn_read_unsent {a : Byte} (ha : a ≠ Config.wpAddr)
    (h : s.link.sendAnswers = true :: true :: false :: as) (v : Word24) :
    writeTxn a v s = (false, s.ran .writeSend as s.link.arrivals
      [.flush, .send unlockFrame true, .flush, .send (encWr a v) true, .flush, .send (encRd a) false]) := by
  rw [writeTxn_written ha v h, verifyTxn_of_readTxn_none (readTxn_unsent (ran_sendAnswers ..) a), ran_ran]
  rfl

theorem writeTxn_read_bad {a : Byte} {k : ErrKind} (ha : a ≠ Config.wpAddr)
    (h : s.link.sendAnswers = true :: true :: true :: as) (har : s.link.arrivals = bs :: ar) (hlen : bs.length ≤ 4)
    (hd : decRd a bs = .bad k) (v : Word24) :
    writeTxn a v s = (false, s.ran k as ar [.flush, .send unlockFrame true, .flush, .send (encWr a v) true,
      .flush, .send (encRd a) true, .recv 4 500 bs]) := by
  rw [writeTxn_written ha v h, verifyTxn_of_readTxn_none (readTxn_bad (ran_sendAnswers ..) har hlen hd), ran_ran]
  rfl

theorem writeTxn_mismatch {a : Byte} {v rb : Word24} (ha : a ≠ Config.wpAddr)
    (h : s.link.sendAnswers = true :: true :: true :: as) (har : s.link.arrivals = readResponse a rb :: ar)
    (hv : rb ≠ v) :
    writeTxn a v s = (false, s.ran .writeVerify as ar [.flush, .send unlockFrame true, .flush, .send (encWr a v) true,
      .flush, .send (encRd a) true, .recv 4 500 (readResponse a rb)]) := by
  rw [writeTxn_written ha v h, verifyTxn_of_ne (readTxn_valid (ran_sendAnswers ..) har) hv, fail_ran, ran_ran]
  rfl

/-! `APPLY_TXN` (44_sequencer.md R205) -/

theorem applyTxn_of_readTxn_none {s' : State} (h : readTxn Config.modeAddr s = (none, s')) :
    applyTxn s = (false, s') := by
  simp only [applyTxn, h]

theorem applyTxn_of_readTxn_some {m : Word24} {s' : State} (h : readTxn Config.modeAddr s = (some m, s')) :
    applyTxn s = writeTxn Config.modeAddr (overlaidMode m s') s' := by
  simp only [applyTxn, h]

/-- A mode read and a verified write of the overlaid value, `m2`. -/
theorem applyTxn_verified {m m2 : Word24} {relock : Bool} (hm2 : m2 = overlaidMode m s)
    (h : s.link.sendAnswers = true :: true :: true :: true :: relock :: as)
    (har : s.link.arrivals = readResponse Config.modeAddr m :: readResponse Config.modeAddr m2 :: ar) :
    applyTxn s = (true, s.ran s.err as ar
      [.flush, .send (encRd Config.modeAddr) true, .recv 4 500 (readResponse Config.modeAddr m),
        .flush, .send unlockFrame true, .flush, .send (encWr Config.modeAddr m2) true,
        .flush, .send (encRd Config.modeAddr) true, .recv 4 500 (readResponse Config.modeAddr m2),
        .flush, .send lockFrame relock]) := by
  rw [applyTxn_of_readTxn_some (readTxn_valid h har), overlaidMode_ran, ← hm2,
    writeTxn_verified (by decide) (ran_sendAnswers ..) (ran_arrivals ..), ran_ran]
  rfl

/-! `GET_TXN` (44_sequencer.md R206) -/

theorem getTxn_unsent (h : s.link.sendAnswers = false :: as) :
    getTxn s = (false, s.ran .writeSend as s.link.arrivals [.flush, .send encBulk false]) := by
  simp only [getTxn, sendFrame_answered h, fail_ran]

theorem getTxn_bad {k : ErrKind} (h : s.link.sendAnswers = true :: as) (har : s.link.arrivals = bs :: ar)
    (hlen : bs.length ≤ 35) (hd : decBulk bs = .bad k) :
    getTxn s = (false, s.ran k as ar [.flush, .send encBulk true, .recv 35 500 bs]) := by
  rw [getTxn_sent s _ (sendFrame_answered h _), har, rxRecv_ran _ _ _ _ _ hlen]
  simp [hd]

/-- `s` after a bulk read that was answered with the bytes of `f`. -/
def State.bulkRead (s : State) (as : List Bool) (ar : List (List Byte)) (f : BulkFrame) : State :=
  s.ran s.err as ar [.flush, .send encBulk true, .recv 35 500 (bulkRespBytes f)]

theorem rxRecv_bulkRead (s : State) (as : List Bool) (ar : List (List Byte)) (f : BulkFrame) :
    rxRecv 35 (s.ran s.err as (bulkRespBytes f :: ar) [.flush, .send encBulk true]) =
      (bulkRespBytes f, s.bulkRead as ar f) :=
  rxRecv_ran s s.err as ar _ (bulkRespBytes_length f).le

/-- After a valid bulk response, a failed angle read fails the command. -/
theorem getTxn_of_angle_none {f : BulkFrame} {s' : State} (hf : bulkChecksumOk f)
    (h : s.link.sendAnswers = true :: as) (har : s.link.arrivals = bulkRespBytes f :: ar)
    (hr : readTxn Config.angleAddr (s.bulkRead as ar f) = (none, s')) : getTxn s = (false, s') := by
  rw [getTxn_sent s _ (sendFrame_answered h _), har, rxRecv_bulkRead]
  simp only [decBulk_bulkRespBytes_ok hf, hr]

/-- After a valid bulk response, an angle read that gives a value leads to the commit (R207). -/
theorem getTxn_of_angle_some {f : BulkFrame} {ra : Word24} {s' : State} (hf : bulkChecksumOk f)
    (h : s.link.sendAnswers = true :: as) (har : s.link.arrivals = bulkRespBytes f :: ar)
    (hr : readTxn Config.angleAddr (s.bulkRead as ar f) = (some ra, s')) :
    getTxn s = (true, commit (fieldsOf f) ra s') := by
  rw [getTxn_sent s _ (sendFrame_answered h _), har, rxRecv_bulkRead]
  simp only [decBulk_bulkRespBytes_ok hf, hr]

end Answered

/-- A command whose transaction made the calls `calls`, ended with the kind `k` and wrote nothing else. -/
theorem next_toIdle_of_ran {w : Word64} {s : State} {p : Bool × State} {k : ErrKind} {as : List Bool}
    {ar : List (List Byte)} {calls : List Call} (o : Bool) (h : p = (o, (acceptCommand w s).ran k as ar calls)) :
    (.next (toIdle p.2) : Host.Outcome State Fault Refusal) = .next (s.commandDone w k (s.link.after as ar calls)) := by
  rw [h, toIdle_ran_acceptCommand]

/-! ## The relock (R203) -/

/-- The command succeeded exactly if its last transport call is the send of the lock frame. -/
def State.relockedIffOk (s : State) : Prop :=
  s.err = .none ↔ ∃ relock, s.link.log.getLast? = some (.send lockFrame relock)

/-- A failure whose last call is not the send of the lock frame. -/
theorem relockedIffOk_of_failed {s : State} {c : Call} (hs : s.err ≠ .none) (hlast : s.link.log.getLast? = some c)
    (hc : ∀ relock, c ≠ .send lockFrame relock) : s.relockedIffOk := by
  refine iff_of_false hs fun ⟨relock, h⟩ => hc relock ?_
  rw [hlast] at h
  exact Option.some.inj h

/-- The last call of a `READ_TXN` is a receive, or the send of its read command. -/
theorem readTxn_getLast? (a : Byte) (s : State) :
    ∃ c, (readTxn a s).2.link.log.getLast? = some c ∧ ∀ relock, c ≠ .send lockFrame relock := by
  obtain ⟨ok, bs, -, -, h⟩ := readTxn_spec a s
  cases ok with
  | false => exact ⟨.send (encRd a) false, by simp [h, Link.after], by simp [encRd, lockFrame]⟩
  | true => exact ⟨.recv 4 500 (bs.take 4), by simp [h, Link.after], by simp⟩

theorem sendFrame_getLast? (f : List Byte) (s : State) :
    (sendFrame f s).2.link.log.getLast? = some (.send f (sendFrame f s).1) := by
  obtain ⟨ok, -, h⟩ := sendFrame_spec f s
  simp [h, Link.after]

@[simp] theorem sendFrame_err (f : List Byte) (s : State) : (sendFrame f s).2.err = s.err := rfl

/-- Of the ways a read-back ends, only the right value is followed by a send, which is the relock. -/
theorem relockedIffOk_verifyTxn (a : Byte) (v : Word24) {s : State} (hs : s.err = .none) :
    (verifyTxn a v s).2.relockedIffOk := by
  obtain ⟨c, hlast, hc⟩ := readTxn_getLast? a s
  obtain ⟨k, l, hk, -, hok⟩ := readTxn_frame a s
  rcases hr : readTxn a s with ⟨_ | rb, s'⟩ <;> rw [hr] at hlast hok hk
  · rw [verifyTxn_of_readTxn_none hr]
    exact relockedIffOk_of_failed (readTxn_none_err hr) hlast hc
  · by_cases hv : rb = v
    · subst hv
      rw [verifyTxn_of_eq hr]
      have herr : s'.err = .none := by
        obtain rfl : s' = s.withErrLink k l := hk
        exact (hok rb rfl).trans hs
      exact iff_of_true herr ⟨_, sendFrame_getLast? lockFrame s'⟩
    · rw [verifyTxn_of_ne hr hv]
      exact relockedIffOk_of_failed (by simp) hlast hc

/-- No write frame for another register is the lock frame. -/
theorem encWr_ne_lockFrame {a : Byte} (ha : a ≠ Config.wpAddr) (v : Word24) : encWr a v ≠ lockFrame := by
  intro h
  have haddr : (encWr a v).getD 1 0 = lockFrame.getD 1 0 := by rw [h]
  exact ha haddr

theorem unlockFrame_ne_lockFrame : unlockFrame ≠ lockFrame := by decide

/-- A write that fails at the send of `f` has not relocked. -/
theorem relockedIffOk_of_unsent {f : List Byte} (hf : f ≠ lockFrame) (s : State) :
    (fail .writeSend (sendFrame f s).2).relockedIffOk :=
  relockedIffOk_of_failed (by simp) (sendFrame_getLast? f s) (by simp [hf])

theorem relockedIffOk_writeTail {a : Byte} (ha : a ≠ Config.wpAddr) (v : Word24) {s : State} (hs : s.err = .none) :
    (writeTail a v s).2.relockedIffOk := by
  have hunsent := relockedIffOk_of_unsent (encWr_ne_lockFrame ha v) s
  have herr := (sendFrame_err (encWr a v) s).trans hs
  rcases h : sendFrame (encWr a v) s with ⟨_ | _, s'⟩ <;> rw [h] at hunsent herr <;>
    simp only [writeTail, h, if_neg ha]
  · exact hunsent
  · exact relockedIffOk_verifyTxn a v herr

theorem relockedIffOk_writeTxn {a : Byte} (ha : a ≠ Config.wpAddr) (v : Word24) {s : State} (hs : s.err = .none) :
    (writeTxn a v s).2.relockedIffOk := by
  have hunsent := relockedIffOk_of_unsent unlockFrame_ne_lockFrame s
  have herr := (sendFrame_err unlockFrame s).trans hs
  rcases h : sendFrame unlockFrame s with ⟨_ | _, s'⟩ <;> rw [h] at hunsent herr <;>
    simp only [writeTxn, encWr_unlock, h, if_neg ha]
  · exact hunsent
  · exact relockedIffOk_writeTail ha v herr

/-! ## The rows of the transition table (R217), by the step on top of `SEQ` -/

section Rows

variable {s s' : State} {t : Txn} {up : List SeqStep} {ok : Bool}

theorem seqStep_rdSend (hs : s.seq = up ++ [.rdSend]) (ht : s.txn = some t)
    (h : sendFrame (encRd t.addr) s = (ok, s')) :
    seqStep s = some (if ok then atSteps (up ++ [.rdRecv]) { t with sent := encRd t.addr } s'
      else readFailed up.reverse .writeSend s') := by
  cases ok <;> simp [seqStep, hs, ht, h]

theorem seqStep_rdRecv_bad {k : ErrKind} (hs : s.seq = up ++ [.rdRecv]) (ht : s.txn = some t)
    (hd : decRd (t.sent.getD 1 0) (rxRecv 4 s).1 = .bad k) :
    seqStep s = some (readFailed up.reverse k (rxRecv 4 s).2) := by
  simp only [seqStep, hs, ht, List.reverse_append, List.reverse_singleton, List.singleton_append, Config.rdRespLen, hd]

theorem seqStep_rdRecv_ok {v : Word24} (hs : s.seq = up ++ [.rdRecv]) (ht : s.txn = some t)
    (hd : decRd (t.sent.getD 1 0) (rxRecv 4 s).1 = .ok v) :
    seqStep s = readDone up.reverse { t with readBack := v } (rxRecv 4 s).2 := by
  simp only [seqStep, hs, ht, List.reverse_append, List.reverse_singleton, List.singleton_append, Config.rdRespLen, hd]

theorem seqStep_wrUnlock (hs : s.seq = up ++ [.wrUnlock]) (ht : s.txn = some t)
    (h : sendFrame unlockFrame s = (ok, s')) :
    seqStep s = some (if ok then atSteps (up ++ [.wrWrite]) { t with sent := unlockFrame } s'
      else toIdle (fail .writeSend s')) := by
  cases ok <;> simp [seqStep, hs, ht, encWr_unlock, h]

theorem seqStep_wrWrite (hs : s.seq = up ++ [.wrWrite]) (ht : s.txn = some t)
    (h : sendFrame (encWr t.addr t.value) s = (ok, s')) :
    seqStep s = some (if ok then
        if t.addr = Config.wpAddr then toIdle s'
        else atSteps (up ++ [.wrVerify]) { t with sent := encWr t.addr t.value } s'
      else toIdle (fail .writeSend s')) := by
  cases ok <;> simp [seqStep, hs, ht, h, apply_ite some]

/-- A step that runs a transaction only puts its first step on the stack. -/
theorem seqStep_call {top sub : SeqStep} (hsub : calledStep top = some sub) (hs : s.seq = up ++ [top])
    (ht : s.txn = some t) : seqStep s = some (atSteps (up ++ [top, sub]) t s) := by
  cases top <;> cases hsub <;> simp [seqStep, hs, ht]

theorem seqStep_wrRelock (hs : s.seq = up ++ [.wrRelock]) (ht : s.txn = some t) :
    seqStep s = some (toIdle (sendFrame lockFrame s).2) := by
  simp [seqStep, hs, ht, encWr_lock]

theorem seqStep_grSend (hs : s.seq = [.grSend]) (ht : s.txn = some t) (h : sendFrame encBulk s = (ok, s')) :
    seqStep s = some (if ok then atSteps [.grRecv] { t with sent := encBulk } s' else toIdle (fail .writeSend s')) := by
  cases ok <;> simp [seqStep, hs, ht, h]

theorem seqStep_grCommit {f : BulkFields} (hs : s.seq = [.grCommit]) (ht : s.txn = some t) (hf : t.fields = some f) :
    seqStep s = some (toIdle (commit f t.readBack s)) := by
  simp [seqStep, hs, ht, hf]

end Rows

/-! ## A due frame is emitted (log entry 7) -/

/-- The frame the running step sends runs that step. -/
theorem emitFrame_of_due {f : List Byte} {s u : State} (hdue : dueFrame s = some f) (h : seqStep s = some u) :
    emitFrame f s = .next u := by
  rw [emitFrame, if_pos hdue]
  exact advance_eq_next.2 h

theorem exec_wrCmd {a c : Byte} {v : Word24} (hc : wrBytes a v c = encWr a v) (s : State) :
    exec (.wrCmd a v c) s = emitFrame (encWr a v) s := if_pos hc

/-! ## A command run step by step (log entry 10) -/

/-- At most `n` rows of the transition table lead from `s` to `u`, which is at `IDLE`. -/
inductive RunsTo : Nat → State → State → Prop
  | idle (n : Nat) {s : State} (hs : s.seq = []) : RunsTo n s s
  | step {n : Nat} {s t u : State} (h : seqStep s = some t) (hr : RunsTo n t u) : RunsTo (n + 1) s u

theorem seqStep_idle {s : State} (hs : s.seq = []) : seqStep s = none := by simp [seqStep, hs]

/-- The model's `seqRun` answers what the relation says. -/
theorem RunsTo.seqRun {n : Nat} {s u : State} (h : RunsTo n s u) : seqRun n s = some u ∧ u.seq = [] := by
  induction h with
  | idle n hs => exact ⟨by cases n <;> simp [Machine.seqRun, hs], hs⟩
  | @step n s t u h _ ih =>
    have hs : s.seq ≠ [] := fun hs => by simp [seqStep_idle hs] at h
    exact ⟨by simp [Machine.seqRun, hs, h, ih], ih.2⟩

/-- At `IDLE` further steps change nothing. -/
theorem RunsTo.mono {m n : Nat} {s u : State} (h : RunsTo m s u) (hmn : m ≤ n) : RunsTo n s u := by
  induction h generalizing n with
  | idle _ hs => exact .idle n hs
  | step h _ ih =>
    obtain ⟨n, rfl⟩ : ∃ n', n = n' + 1 := ⟨n - 1, by omega⟩
    exact .step h (ih (by omega))

/-! The end of a `READ_TXN` does not see where the sequencer stands. -/

theorem readDone_atSteps (up : List SeqStep) (t : Txn) (st : List SeqStep) (x : Txn) (s : State) :
    readDone up t (atSteps st x s) = readDone up t s := by
  unfold readDone
  repeat' split
  all_goals rfl

/-- What a failed `READ_TXN` leaves when it ends its command: `RESULT` is 0 if it is `READ_REG`'s (R208). -/
def State.readEnded (up : List SeqStep) (s : State) : State :=
  toIdle (if up = [] then { s with result := 0 } else s)

theorem readFailed_reverse_atSteps (up : List SeqStep) (k : ErrKind) (st : List SeqStep) (x : Txn) (s : State) :
    readFailed up.reverse k (atSteps st x s) = (fail k s).readEnded up := by
  by_cases hup : up = []
  · subst hup
    rfl
  · simp [readFailed, State.readEnded, hup]

/-- The three ways `READ_TXN` ends (R202). -/
theorem readTxn_cases (a : Byte) (s : State) :
    (∃ s₁, sendFrame (encRd a) s = (false, s₁) ∧ readTxn a s = (none, fail .writeSend s₁)) ∨
    (∃ s₁ k, sendFrame (encRd a) s = (true, s₁) ∧ decRd a (rxRecv 4 s₁).1 = .bad k ∧
      readTxn a s = (none, fail k (rxRecv 4 s₁).2)) ∨
    ∃ s₁ v, sendFrame (encRd a) s = (true, s₁) ∧ decRd a (rxRecv 4 s₁).1 = .ok v ∧
      readTxn a s = (some v, (rxRecv 4 s₁).2) := by
  rcases h : sendFrame (encRd a) s with ⟨_ | _, s₁⟩
  · exact .inl ⟨s₁, rfl, by simp only [readTxn, h]⟩
  · cases hd : decRd a (rxRecv 4 s₁).1 with
    | bad k => exact .inr (.inl ⟨s₁, k, rfl, hd, by simp only [readTxn, h, Config.rdRespLen, hd]⟩)
    | ok v => exact .inr (.inr ⟨s₁, v, rfl, hd, by simp only [readTxn, h, Config.rdRespLen, hd]⟩)

section Stepwise

variable {s s' : State} {t : Txn} {up : List SeqStep}

/-- The first row of a `READ_TXN` whose command is sent. -/
theorem RunsTo.rdSend {n : Nat} {u : State} (h : sendFrame (encRd t.addr) s = (true, s'))
    (hr : RunsTo n (atSteps (up ++ [.rdRecv]) { t with sent := encRd t.addr } s') u) :
    RunsTo (n + 1) (atSteps (up ++ [.rdSend]) t s) u := by
  refine .step (seqStep_rdSend rfl rfl (sendFrame_atSteps ..)) ?_
  rw [h]
  exact hr

/-- `RD_RECV` checks the answer to the command just sent: the check fails. -/
theorem seqStep_answer_bad {k : ErrKind} (hd : decRd t.addr (rxRecv 4 s).1 = .bad k) :
    seqStep (atSteps (up ++ [.rdRecv]) { t with sent := encRd t.addr } s) =
      some ((fail k (rxRecv 4 s).2).readEnded up) := by
  rw [seqStep_rdRecv_bad (s := atSteps _ _ s) (t := { t with sent := encRd t.addr }) rfl rfl hd, rxRecv_atSteps,
    readFailed_reverse_atSteps]

/-- `RD_RECV` checks the answer to the command just sent: the check succeeds. -/
theorem seqStep_answer_ok {v : Word24} (hd : decRd t.addr (rxRecv 4 s).1 = .ok v) :
    seqStep (atSteps (up ++ [.rdRecv]) { t with sent := encRd t.addr } s) =
      readDone up.reverse { t with sent := encRd t.addr, readBack := v } (rxRecv 4 s).2 := by
  rw [seqStep_rdRecv_ok (s := atSteps _ _ s) (t := { t with sent := encRd t.addr }) rfl rfl hd, rxRecv_atSteps,
    readDone_atSteps]

/-- A `READ_TXN` that fails ends its command. -/
theorem runsTo_of_readTxn_none (h : readTxn t.addr s = (none, s')) :
    RunsTo 2 (atSteps (up ++ [.rdSend]) t s) (s'.readEnded up) := by
  obtain ⟨s₁, hs, hr⟩ | ⟨s₁, k, hs, hd, hr⟩ | ⟨s₁, v, -, -, hr⟩ := readTxn_cases t.addr s <;> cases hr.symm.trans h
  · refine .step (seqStep_rdSend rfl rfl (sendFrame_atSteps ..)) ?_
    rw [hs]
    simp only [Bool.false_eq_true, if_false, readFailed_reverse_atSteps]
    exact .idle 1 rfl
  · exact .rdSend hs (.step (seqStep_answer_bad hd) (.idle 0 rfl))

/-- A `READ_TXN` that gives a value hands it to the step that encloses it. -/
theorem runsTo_of_readTxn_some {v : Word24} {n : Nat} {u w : State} (h : readTxn t.addr s = (some v, s'))
    (hd : readDone up.reverse { t with sent := encRd t.addr, readBack := v } s' = some u) (hu : RunsTo n u w) :
    RunsTo (n + 2) (atSteps (up ++ [.rdSend]) t s) w := by
  obtain ⟨s₁, -, hr⟩ | ⟨s₁, k, -, -, hr⟩ | ⟨s₁, v, hs, hdec, hr⟩ := readTxn_cases t.addr s <;> cases hr.symm.trans h
  exact .rdSend hs (.step ((seqStep_answer_ok hdec).trans hd) hu)

/-- The read-back of a write and its relock: 4 rows. -/
theorem runsTo_verifyTxn (hup : up = [] ∨ up = [.asWrite]) :
    RunsTo 4 (atSteps (up ++ [.wrVerify]) t s) (toIdle (verifyTxn t.addr t.value s).2) := by
  refine .step (seqStep_call rfl rfl rfl) ?_
  rw [List.append_cons, atSteps_atSteps]
  rcases hr : readTxn t.addr s with ⟨_ | rb, s'⟩
  · have hend := runsTo_of_readTxn_none (up := up ++ [.wrVerify]) hr
    rw [verifyTxn_of_readTxn_none hr]
    simpa [State.readEnded] using hend.mono (n := 3) (by omega)
  · refine runsTo_of_readTxn_some hr (readDone_wrVerify hup _ _) ?_
    by_cases hv : rb = t.value
    · subst hv
      rw [verifyTxn_of_eq hr]
      simp only [if_true]
      exact .step (seqStep_wrRelock rfl rfl) (.idle 0 rfl)
    · rw [verifyTxn_of_ne hr hv]
      simp only [if_neg hv]
      exact .idle 1 rfl

/-- A write from its write frame on: 5 rows. -/
theorem runsTo_writeTail (hup : up = [] ∨ up = [.asWrite]) :
    RunsTo 5 (atSteps (up ++ [.wrWrite]) t s) (toIdle (writeTail t.addr t.value s).2) := by
  refine .step (seqStep_wrWrite rfl rfl (sendFrame_atSteps ..)) ?_
  rcases h : sendFrame (encWr t.addr t.value) s with ⟨_ | _, s'⟩
  · simp only [writeTail, h]
    exact .idle 4 rfl
  · by_cases ha : t.addr = Config.wpAddr
    · simp only [writeTail, h, if_pos ha]
      exact .idle 4 rfl
    · simp only [writeTail, h, if_neg ha, if_true]
      exact runsTo_verifyTxn (s := s') (t := { t with sent := encWr t.addr t.value }) hup

/-- A write that unlocks: 6 rows. -/
theorem runsTo_writeTxn (hup : up = [] ∨ up = [.asWrite]) (ha : t.addr ≠ Config.wpAddr) :
    RunsTo 6 (atSteps (up ++ [.wrUnlock]) t s) (toIdle (writeTxn t.addr t.value s).2) := by
  refine .step (seqStep_wrUnlock rfl rfl (sendFrame_atSteps ..)) ?_
  rcases h : sendFrame unlockFrame s with ⟨_ | _, s'⟩ <;>
    simp only [writeTxn, encWr_unlock, h, if_neg ha, if_true]
  · exact .idle 5 rfl
  · exact runsTo_writeTail (s := s') (t := { t with sent := unlockFrame }) hup

/-- `APPLY_TXN`: 10 rows. -/
theorem runsTo_applyTxn (ha : t.addr = Config.modeAddr) :
    RunsTo 10 (atSteps [.asRead] t s) (toIdle (applyTxn s).2) := by
  refine .step (seqStep_call (up := []) rfl rfl rfl) ?_
  rw [atSteps_atSteps]
  rcases hr : readTxn t.addr s with ⟨_ | m, s'⟩
  · rw [applyTxn_of_readTxn_none (ha ▸ hr)]
    exact (runsTo_of_readTxn_none (up := [.asRead]) hr).mono (by omega)
  · rw [applyTxn_of_readTxn_some (ha ▸ hr)]
    refine runsTo_of_readTxn_some (up := [.asRead]) hr rfl (.step (seqStep_call (up := []) rfl rfl rfl) ?_)
    have hne : t.addr ≠ Config.wpAddr := ha ▸ by decide
    rw [← ha]
    exact runsTo_writeTxn (s := s') (up := [.asWrite])
      (t := { t with sent := encRd t.addr, readBack := m, value := overlaidMode m s' }) (.inr rfl) hne

/-- `GET_TXN`: 6 rows. -/
theorem runsTo_getTxn (ha : t.addr = Config.angleAddr) :
    RunsTo 6 (atSteps [.grSend] t s) (toIdle (getTxn s).2) := by
  refine .step (seqStep_grSend rfl rfl (sendFrame_atSteps ..)) ?_
  rcases h : sendFrame encBulk s with ⟨_ | _, s₁⟩
  · simp only [getTxn, h]
    exact .idle 5 rfl
  · rw [getTxn_sent s s₁ h]
    have hrow := seqStep_grRecv (s := atSteps [.grRecv] { t with sent := encBulk } s₁) rfl rfl
    rw [rxRecv_atSteps] at hrow
    cases hd : decBulk (rxRecv 35 s₁).1 with
    | bad k =>
      simp only [hd] at hrow
      exact .step hrow (.idle 4 rfl)
    | ok f =>
      simp only [hd] at hrow
      refine .step hrow (.step (seqStep_call (up := []) rfl rfl rfl) ?_)
      simp only [atSteps_atSteps]
      rcases hr : readTxn t.addr (rxRecv 35 s₁).2 with ⟨_ | ra, s'⟩ <;> simp only [← ha, hr]
      · have hfail := runsTo_of_readTxn_none (t := { t with sent := encBulk, fields := some f }) (up := [.grAngle]) hr
        exact hfail.mono (n := 3) (by omega)
      · exact runsTo_of_readTxn_some (up := [.grAngle]) hr rfl (.step (seqStep_grCommit rfl rfl rfl) (.idle 0 rfl))

end Stepwise

/-! ## The statements -/

/-- Settles O18: a legal word decodes to its command, which ends at `IDLE` with that word in `CMD`. -/
theorem commandDispatch : Obligations.CommandDispatch := by
  unfold Obligations.CommandDispatch
  intro w s
  refine ⟨fun hw => (illegalCommandRefused w).2 hw s, fun hw => ⟨_, rfl, ?_⟩⟩
  obtain ⟨s', k, l, hdone⟩ := hostWriteCmd_of_legal hw s
  have hexec {i : Instr} (hi : decodeCommand w = i) : exec i s = .next (hostWriteCmd w s) :=
    hi ▸ exec_decodeCommand hw s
  refine ⟨by rw [hdone]; rfl, by rw [hdone]; rfl, by rw [hdone]; rfl, by rw [hdone]; rfl,
    fun h => hexec ?_, fun h => hexec ?_, fun h => hexec ?_, fun h => hexec ?_⟩ <;>
    simp [decodeCommand, hw, cmdOpc_eq_iff, h, opcReadReg, opcWriteReg, opcApplySettings, cmdAddr]

/-- Settles O21: the check of the write is the value being finite and positive (O13). -/
theorem calibrationWriteCompletes : Obligations.CalibrationWriteCompletes := by
  unfold Obligations.CalibrationWriteCompletes
  intro w s
  rw [← calibrationLegalIffFinitePositive w]
  exact ⟨fun hw => ⟨if_pos hw, if_pos hw⟩, fun hw => ⟨if_neg hw, if_neg hw⟩⟩

/-- Settles O24: the valid response passes the checks. -/
theorem readRegCompletes : Obligations.ReadRegCompletes := by
  unfold Obligations.ReadRegCompletes
  intro a v s as ar has har
  have hread := readTxn_valid (s := acceptCommand (cmdWord opcReadReg a) s) has har
  simp only [exec, execReadReg, hcReadReg, hread]
  rfl

/-- Settles O25, by what `READ_TXN` does with any two answers. -/
theorem readRegOutcome : Obligations.ReadRegOutcome := by
  unfold Obligations.ReadRegOutcome
  intro a s
  obtain ⟨ok, bs, hok, hbs, h⟩ := readTxn_spec a (acceptCommand (cmdWord opcReadReg a) s)
  refine ⟨ok, bs, hok, hbs, ?_⟩
  simp only [exec, execReadReg, hcReadReg, h]
  cases ok with
  | false => rfl
  | true => cases decRd a (bs.take 4) <;> rfl

/-- Settles O27: every step of the verified write succeeds, and nothing depends on the answer to the relock. -/
theorem writeRegCompletes : Obligations.WriteRegCompletes := by
  unfold Obligations.WriteRegCompletes
  intro a s relock as ar ha has har
  exact next_toIdle_of_ran _ (writeTxn_verified (s := acceptCommand _ s) ha has har)

/-- Settles O28: a lemma about `WRITE_TXN` for each step that can fail. -/
theorem writeRegFailures : Obligations.WriteRegFailures := by
  unfold Obligations.WriteRegFailures
  intro a s as ar ha
  refine ⟨fun has => ?_, fun has => ?_, fun has => ?_, fun bs k hlen hd has har => ?_, fun v hv has har => ?_⟩
  · exact next_toIdle_of_ran _ (writeTxn_unlock_unsent (s := acceptCommand _ s) ha has s.arg)
  · exact next_toIdle_of_ran _ (writeTxn_write_unsent (s := acceptCommand _ s) ha has s.arg)
  · exact next_toIdle_of_ran _ (writeTxn_read_unsent (s := acceptCommand _ s) ha has s.arg)
  · exact next_toIdle_of_ran _ (writeTxn_read_bad (s := acceptCommand _ s) ha has har hlen hd s.arg)
  · exact next_toIdle_of_ran _ (writeTxn_mismatch (s := acceptCommand _ s) ha has har hv)

/-- Settles O29: the acceptance clears `ERR`, and each transaction of the write ends without an error kind only by the
relock. -/
theorem relockSentIffVerified : Obligations.RelockSentIffVerified := by
  unfold Obligations.RelockSentIffVerified
  intro a s t ha h
  cases h
  exact relockedIffOk_writeTxn (s := acceptCommand (cmdWord opcWriteReg a) s) ha s.arg rfl

/-- Settles O30: the mode read, then the verified write of the overlaid value. -/
theorem applySettingsCompletes : Obligations.ApplySettingsCompletes := by
  unfold Obligations.ApplySettingsCompletes
  intro m m2 s relock as ar hm2 has har
  exact next_toIdle_of_ran _ (applyTxn_verified (s := acceptCommand _ s) hm2 has har)

/-- Settles O31: `APPLY_TXN` ends with its mode read. -/
theorem applySettingsReadFailure : Obligations.ApplySettingsReadFailure := by
  unfold Obligations.ApplySettingsReadFailure
  intro s as ar
  refine ⟨fun has => next_toIdle_of_ran _ (applyTxn_of_readTxn_none ?_),
    fun bs k hlen hd has har => next_toIdle_of_ran _ (applyTxn_of_readTxn_none ?_)⟩
  · exact readTxn_unsent (s := acceptCommand _ s) has Config.modeAddr
  · exact readTxn_bad (s := acceptCommand _ s) has har hlen hd

/-- Settles O32: all that the two commands write is `ERR` and the link. -/
theorem writingCommandsTouchOnlyErr : Obligations.WritingCommandsTouchOnlyErr := by
  unfold Obligations.WritingCommandsTouchOnlyErr
  intro s
  refine ⟨fun a => ?_, ?_⟩
  · obtain ⟨k, l, h⟩ := hcWriteReg_acceptCommand a (cmdWord opcWriteReg a) s
    exact ⟨k, l, congrArg _ h⟩
  · obtain ⟨k, l, h⟩ := hcApplySettings_acceptCommand (cmdWord opcApplySettings 0) s
    exact ⟨k, l, congrArg _ h⟩

/-- Settles O33: the bulk read, the angle read and the commit. -/
theorem getReadingsCompletes : Obligations.GetReadingsCompletes := by
  unfold Obligations.GetReadingsCompletes
  intro f ra s as ar hf has har
  have hget := getTxn_of_angle_some (s := acceptCommand (cmdWord opcGetReadings 0) s) hf has har (readTxn_valid rfl rfl)
  rw [exec_getReadings, hcGetReadings, hget, State.bulkRead, ran_ran]
  rfl

/-- Settles O34: the bulk read fails, or it succeeds and the angle read fails. -/
theorem getReadingsFailures : Obligations.GetReadingsFailures := by
  unfold Obligations.GetReadingsFailures
  intro s as ar
  refine ⟨fun has => next_toIdle_of_ran _ (getTxn_unsent (s := acceptCommand _ s) has),
    fun bs k hlen hd has har => next_toIdle_of_ran _ (getTxn_bad (s := acceptCommand _ s) has har hlen hd),
    fun f hf has har => next_toIdle_of_ran false ?_, fun f bs k hf hlen hd has har => next_toIdle_of_ran false ?_⟩
  · refine (getTxn_of_angle_none (s := acceptCommand _ s) hf has har (readTxn_unsent rfl _)).trans ?_
    rw [State.bulkRead, ran_ran]
    rfl
  · refine (getTxn_of_angle_none (s := acceptCommand _ s) hf has har (readTxn_bad rfl rfl hlen hd)).trans ?_
    rw [State.bulkRead, ran_ran]
    rfl

/-- Settles O41: the frame is the one due, so the row of the table runs. -/
theorem framesEmittedInTransaction : Obligations.FramesEmittedInTransaction := by
  unfold Obligations.FramesEmittedInTransaction
  intro s t ok as up ht has
  have hsend := sendFrame_answered has
  refine ⟨fun a hs ha => ?_, fun hs => ?_, fun hs => ?_, fun a v hs ha hv => ?_, fun hs => ?_, rfl⟩
  · subst ha
    refine (emitFrame_of_due (by simp [dueFrame, hs, ht]) (seqStep_rdSend hs ht (hsend _))).trans ?_
    cases ok with
    | true => rfl
    | false => by_cases hup : up = [] <;> simp [readFailed, hup] <;> rfl
  · refine (emitFrame_of_due (by simp [dueFrame, hs, ht]) (seqStep_grSend hs ht (hsend _))).trans ?_
    cases ok <;> rfl
  · have hdue : dueFrame s = some (encWr Config.wpAddr Config.unlockCode) := by simp [dueFrame, hs, ht]
    rw [exec_wrCmd (by decide)]
    refine (emitFrame_of_due hdue (seqStep_wrUnlock hs ht (hsend _))).trans ?_
    cases ok <;> rfl
  · subst ha hv
    have hemit : exec _ s = _ := exec_wrCmd ((wrBytes_eq_encWr_iff t.addr t.value _).2 rfl) s
    refine hemit.trans ((emitFrame_of_due (by simp [dueFrame, hs, ht]) (seqStep_wrWrite hs ht (hsend _))).trans ?_)
    cases ok with
    | false => rfl
    | true =>
      have hwp : Config.wpAddr = 0x1A := rfl
      by_cases ha : t.addr = 0x1A
      · simp only [hwp, ha, ne_eq, not_true_eq_false, and_false, if_true, if_false]
        rfl
      · simp only [hwp, ha, ne_eq, not_false_eq_true, and_true, if_true, if_false]
        rfl
  · have hdue : dueFrame s = some (encWr Config.wpAddr Config.lockCode) := by simp [dueFrame, hs, ht]
    rw [exec_wrCmd (by decide)]
    refine (emitFrame_of_due hdue (seqStep_wrRelock hs ht)).trans ?_
    rw [hsend]
    rfl

/-- Settles O47: the rows of the table follow each transaction call by call. -/
theorem stepwiseCommandEqualsAtomic : Obligations.StepwiseCommandEqualsAtomic := by
  unfold Obligations.StepwiseCommandEqualsAtomic
  intro i s t h
  suffices hrun : ∃ u, RunsTo 10 t u ∧ exec i s = .next u by
    obtain ⟨u, hu, hexec⟩ := hrun
    exact ⟨u, hu.seqRun.1, hu.seqRun.2, hexec⟩
  cases i with
  | readReg a =>
    cases h
    refine ⟨_, ?_, rfl⟩
    rcases hr : readTxn a (acceptCommand (cmdWord opcReadReg a) s) with ⟨_ | v, s'⟩ <;> simp only [hcReadReg, hr]
    · exact (runsTo_of_readTxn_none (up := []) (t := startTxn a 0) hr).mono (by omega)
    · exact (runsTo_of_readTxn_some (up := []) (t := startTxn a 0) hr rfl (.idle 0 rfl)).mono (by omega)
  | writeReg a =>
    cases h
    refine ⟨_, ?_, rfl⟩
    split
    case isTrue ha =>
      rw [hcWriteReg, writeTxn, if_pos ha]
      exact (runsTo_writeTail (up := []) (t := startTxn a s.arg) (.inl rfl)).mono (by omega)
    case isFalse ha => exact (runsTo_writeTxn (up := []) (t := startTxn a s.arg) (.inl rfl) ha).mono (by omega)
  | applySettings => cases h; exact ⟨_, runsTo_applyTxn rfl, rfl⟩
  | getReadings => cases h; exact ⟨_, (runsTo_getTxn rfl).mono (by omega), rfl⟩
  | _ => cases h

/-- Settles O19: the write is accepted without a check. -/
theorem argWriteCompletes : Obligations.ArgWriteCompletes := by
  unfold Obligations.ArgWriteCompletes
  intro w s
  have harg : w.extractLsb' 0 24 = BitVec.ofNat 24 w.toNat := by simp [BitVec.extractLsb']
  simp only [exec, execCsrwArg, harg]
  rfl

/-- Settles O20: the check of the write is that of the two filter fields. -/
theorem cfgWriteCompletes : Obligations.CfgWriteCompletes := by
  unfold Obligations.CfgWriteCompletes
  intro w s
  have hcfg : w.extractLsb' 0 6 = BitVec.ofNat 6 w.toNat := by simp [BitVec.extractLsb']
  refine ⟨fun h => ?_, fun hi hv => ?_⟩
  · have hw : ¬ cfgLegal (w.extractLsb' 0 6) = true := by rw [cfgLegal_iff]; tauto
    exact if_neg hw
  · rw [← hcfg]
    exact if_pos ((cfgLegal_iff w).2 ⟨hi, hv⟩)

/-- Settles O22: no other row of the table takes the index. -/
theorem readOnlyWriteRefused : Obligations.ReadOnlyWriteRefused := by
  unfold Obligations.ReadOnlyWriteRefused
  intro idx w s hcmd harg hcfg hdiv hrsh
  refine ⟨?_, rfl⟩
  rw [decode, decodeWrite, if_neg hcmd, if_neg harg, if_neg hcfg, if_neg hdiv, if_neg hrsh]

/-- Settles O23: a slot is a register with its high bits 0, the two status words are computed. -/
theorem hostReadReturnsSlot : Obligations.HostReadReturnsSlot := by
  unfold Obligations.HostReadReturnsSlot
  intro s
  have h24 (v : Word24) : (v.zeroExtend 64).toNat = v.toNat := toNat_zeroExtend_64 (by omega) v
  refine ⟨fun _ => rfl, rfl, ?_, statusWord_toNat s.ill s.snapValid, h24 _, h24 _,
    toNat_zeroExtend_64 (by omega) s.cfg, rfl, rfl, rfl, rfl, rfl, rfl, rfl, rfl, rfl,
    h24 _, h24 _, h24 _, h24 _, h24 _, h24 _, h24 _, h24 _, fun idx h => csrRead_unimplemented h s⟩
  change (errWord s.err).toNat = _
  cases s.err <;> rfl

/-- Settles O26: the write of the write-protect register is one send. -/
theorem writeProtectRegisterCompletes : Obligations.WriteProtectRegisterCompletes := by
  unfold Obligations.WriteProtectRegisterCompletes
  intro s ok as has
  exact next_toIdle_of_ran _ (writeTxn_wpAddr (s := acceptCommand _ s) has s.arg)

/-- Settles O49, by what the step takes from the inputs. -/
theorem stepRunsSequencer : Obligations.StepRunsSequencer := by
  unfold Obligations.StepRunsSequencer
  refine ⟨fun e i rest s t hs hin hd ht => ?_, fun s t hs hin ht => ?_, fun s hs hin => ?_⟩
  · have htaken : takenInput s = some (.stepwise e, rest) := by simp [takenInput, hin, hs]
    simp only [step, portStep, htaken, runInput, beginEvent, hd, ht]
  · have hnone : takenInput s = none := by simp [takenInput, hin]
    have htick : { s with inputs := tick s.inputs } = s := by rw [hin, tick, ← hin]; simp
    simp only [step, portStep, hnone, if_neg hs, htick]
    exact advance_eq_next.2 ht
  · simp [step, portStep, takenInput, hin, hs]

end Sys2Proof.Machine

namespace Sys2Proof.Machine

/-! # The error kinds each command can end with (60_exceptions.md R241) -/

/-- A received frame is refused with one of the two read kinds; `WriteVerify` is not among them. -/
theorem ne_writeVerify_of_read_kind {k : ErrKind} (h : k = .readLength ∨ k = .readChecksum) : k ≠ .writeVerify := by
  rcases h with rfl | rfl <;> decide

/-- `READ_TXN` compares nothing, so it never writes `WriteVerify` (R202). -/
theorem readTxn_err_ne_writeVerify (a : Byte) {s : State} (hs : s.err ≠ .writeVerify) :
    (readTxn a s).2.err ≠ .writeVerify := by
  obtain ⟨s₁, -, h⟩ | ⟨s₁, k, -, hbad, h⟩ | ⟨s₁, v, hsend, -, h⟩ := readTxn_cases a s <;> rw [h]
  · simp
  · exact ne_writeVerify_of_read_kind (decRd_bad hbad)
  · have herr : s₁.err = s.err := congrArg (·.2.err) hsend.symm
    rwa [rxRecv_err, herr]

/-- Nor does `GET_TXN`, whose steps are a bulk read, a `READ_TXN` and a commit (R206). -/
theorem getTxn_err_ne_writeVerify {s : State} (hs : s.err ≠ .writeVerify) : (getTxn s).2.err ≠ .writeVerify := by
  rcases hsend : sendFrame encBulk s with ⟨_ | _, s₁⟩
  · simp [getTxn, hsend]
  · have herr : s₁.err = s.err := congrArg (·.2.err) hsend.symm
    rw [getTxn_sent s s₁ hsend]
    cases hd : decBulk (rxRecv 35 s₁).1 with
    | bad k => exact ne_writeVerify_of_read_kind (decBulk_bad hd)
    | ok f =>
      have hangle : (readTxn Config.angleAddr (rxRecv 35 s₁).2).2.err ≠ .writeVerify :=
        readTxn_err_ne_writeVerify _ (by rwa [rxRecv_err, herr])
      rcases hr : readTxn Config.angleAddr (rxRecv 35 s₁).2 with ⟨_ | ra, s₂⟩ <;> rw [hr] at hangle <;> exact hangle

/-- `WRITE_TXN` of the write-protect register, which is not read back, can fail only at its one send (R203). -/
theorem writeTxn_wpAddr_err (v : Word24) (s : State) :
    (writeTxn Config.wpAddr v s).2.err = s.err ∨ (writeTxn Config.wpAddr v s).2.err = .writeSend := by
  rcases hsend : sendFrame (encWr Config.wpAddr v) s with ⟨_ | _, s₁⟩ <;>
    simp only [writeTxn, writeTail, hsend, if_true]
  · exact .inr rfl
  · exact .inl (congrArg (·.2.err) hsend.symm)

/-- Settles O37: the acceptance clears `ERR`, and of the transactions only a write that is read back can end with
`WriteVerify`. -/
theorem errorKindsPerCommand : Obligations.ErrorKindsPerCommand := by
  unfold Obligations.ErrorKindsPerCommand
  intro s t
  have hclear (w : Word64) : (acceptCommand w s).err ≠ .writeVerify := by simp
  refine ⟨fun a h => ?_, fun h => ?_, fun h => ?_⟩ <;> cases h
  · exact readTxn_err_ne_writeVerify a (hclear _)
  · exact writeTxn_wpAddr_err s.arg (acceptCommand (cmdWord opcWriteReg 0x1A) s)
  · exact getTxn_err_ne_writeVerify (hclear _)

end Sys2Proof.Machine

namespace Sys2Proof.Machine

/-! # Reset, and what happens at `IDLE` (70_reset_and_hazards.md) -/

/-! ## Which port event is the write of a command word (30_encoding.md R81) -/

/-- The decoder answers a command that runs a word only for the write of a legal word to `CMD`. -/
theorem RunsWord.hostWrite_of_decode {e : PortEvent} {i : Instr} {w : Word64} (hi : RunsWord i w)
    (hd : decode e = .ok i) : ∃ v, illegalCmd v = false ∧ e = .hostWrite 0x00 v ∧ i = decodeCommand v := by
  cases e with
  | hostRead idx => cases hd; cases hi
  | frame bs =>
    have hport := isHostAccess_encode_of_decode hd
    rw [hi.isHostAccess] at hport
    cases hport
  | hostWrite idx v =>
    cases hd
    by_cases hidx : idx = 0x00
    · have hcmd : decodeWrite idx v = decodeCommand v := if_pos hidx
      rw [hcmd] at hi ⊢
      refine ⟨v, ?_, by rw [hidx], rfl⟩
      cases hv : illegalCmd v with
      | false => rfl
      | true =>
        rw [decodeCommand, if_pos hv] at hi
        cases hi with
        | csrwCmd hw => exact hv.symm.trans hw
    · unfold decodeWrite at hi
      rw [if_neg hidx] at hi
      repeat' split at hi
      all_goals cases hi

/-- A stepwise write of a legal word always begins its command (44_sequencer.md R217). -/
theorem beginCommand_decodeCommand {w : Word64} (hw : illegalCmd w = false) (s : State) :
    ∃ t, beginCommand (decodeCommand w) s = some t := by
  unfold decodeCommand
  rw [if_neg (by simp [hw])]
  repeat' split
  all_goals exact ⟨_, rfl⟩

/-! ## What a step at `IDLE` does to the link and to `ERR` -/

/-- No transport call, and `ERR` as it was. -/
def State.noActivity (s t : State) : Prop := t.link.log = s.link.log ∧ t.err = s.err

/-- An event on the link finds no step to run at `IDLE` (R271). -/
theorem LinkEffect.noActivity {s t : State} {o : Host.Outcome State Fault Refusal} (h : LinkEffect s o)
    (hs : s.seq = []) (ho : o = .next t) : s.noActivity t := by
  cases h with
  | quiet l hl => cases ho; exact ⟨hl, rfl⟩
  | sequencer hne => exact absurd hs hne

/-- Of the host accesses only a command calls the transport or writes `ERR` (R283). -/
theorem HostEffect.runsWord_or_noActivity {s t : State} {i : Instr} (h : HostEffect s i t) :
    (∃ w, RunsWord i w) ∨ s.noActivity t := by
  cases h with
  | errOnly hi | readReg hi | readings hi => exact .inl ⟨_, hi⟩
  | _ => exact .inr ⟨rfl, rfl⟩

/-- At `IDLE` an instruction that calls the transport or writes `ERR` is a command. -/
theorem exec_runsWord_or_noActivity {i : Instr} {s t : State} (hs : s.seq = []) (h : exec i s = .next t) :
    (∃ w, RunsWord i w) ∨ s.noActivity t := by
  cases hi : isHostAccess (encode i) with
  | true => exact (hostEffect_of_exec hi h).runsWord_or_noActivity
  | false => exact .inr ((linkEffect_exec i s hi).noActivity hs h)

/-- What a step at `IDLE` does to the link and to `ERR`: nothing; or it runs a command word, or accepts one that is then
run stepwise; or it is a reset. -/
inductive IdleStep (s t : State) : Prop
  | quiet (h : s.noActivity t)
  | command (w : Word64) (rest : List Input) (hw : illegalCmd w = false)
      (hin : s.inputs = .event (.hostWrite 0x00 w) :: rest)
  | begun (w : Word64) (rest : List Input) (hw : illegalCmd w = false)
      (hin : s.inputs = .stepwise (.hostWrite 0x00 w) :: rest) (hlink : t.link = s.link)
  | reset (n : Nat) (rest : List Input) (hin : s.inputs = .reset n :: rest) (herr : t.err = .none)
      (hlink : t.link = s.link)

/-! Each input that is taken, and the wait for one. -/

theorem idleStep_event {e : PortEvent} {rest : List Input} {s t : State} (hs : s.seq = [])
    (hin : s.inputs = .event e :: rest) (h : runEvent e { s with inputs := rest } = .next t) : IdleStep s t := by
  unfold runEvent at h
  split at h
  case h_1 i hd =>
    obtain ⟨w, hi⟩ | hquiet := exec_runsWord_or_noActivity (s := { s with inputs := rest }) hs h
    · obtain ⟨v, hv, rfl, -⟩ := hi.hostWrite_of_decode hd
      exact .command v rest hv hin
    · exact .quiet hquiet
  case h_2 => exact .quiet ((linkEffect_arriveFrame _ { s with inputs := rest }).noActivity hs h)

theorem idleStep_stepwise {e : PortEvent} {rest : List Input} {s t : State} (hs : s.seq = [])
    (hin : s.inputs = .stepwise e :: rest) (h : beginEvent e { s with inputs := rest } = .next t) :
    IdleStep s t := by
  unfold beginEvent at h
  split at h
  case h_1 i hd =>
    split at h
    case h_1 u hu =>
      cases h
      obtain ⟨w, st, x, hi, -, -⟩ := beginCommand_some hu
      obtain ⟨v, hv, rfl, -⟩ := hi.hostWrite_of_decode hd
      exact .begun v rest hv hin (beginCommand_link hu).1
    case h_2 hnone =>
      obtain ⟨w, hi⟩ | hquiet := exec_runsWord_or_noActivity (s := { s with inputs := rest }) hs h
      · obtain ⟨v, hv, -, rfl⟩ := hi.hostWrite_of_decode hd
        obtain ⟨u, hu⟩ := beginCommand_decodeCommand hv { s with inputs := rest }
        cases hnone.symm.trans hu
      · exact .quiet hquiet
  case h_2 => exact .quiet ((linkEffect_arriveFrame _ { s with inputs := rest }).noActivity hs h)

theorem idleStep_step {s t : State} (hs : s.seq = []) (h : step s = .next t) : IdleStep s t := by
  obtain ⟨inp, rest, htaken, hstep⟩ | ⟨-, -, hstep⟩ | ⟨-, hne, -⟩ := step_cases s
  · rw [hstep] at h
    obtain ⟨hin, -⟩ := takenInput_some htaken
    cases inp with
    | event e => exact idleStep_event hs hin h
    | stepwise e => exact idleStep_stepwise hs hin h
    | arrive bs => exact .quiet ((linkEffect_arriveFrame bs { s with inputs := rest }).noActivity hs h)
    | reset n => cases h; exact .reset n rest hin rfl rfl
  · cases hstep.symm.trans h
    exact .quiet ⟨rfl, rfl⟩
  · exact absurd hs hne

/-! ## The reset input (R270, R273) -/

/-- What reset keeps, the host cannot read (R272). -/
theorem csrRead_resetBlock (idx : Byte) (s : State) : csrRead idx (resetBlock s) = csrRead idx State.reset := rfl

/-- A reset that is due is taken by the next step; at `IDLE` every reset is (log entry 14). -/
theorem step_reset {n : Nat} {s : State} {rest : List Input} (hin : s.inputs = .reset n :: rest)
    (hdue : s.seq = [] ∨ n = 0) : step s = .next (resetBlock { s with inputs := rest }) := by
  simp [step, portStep, takenInput, hin, hdue, runInput]

/-- While a command runs, a reset that is not due comes one sequencer step nearer (log entry 14). -/
theorem step_reset_pending {n : Nat} {s : State} {rest : List Input} (hin : s.inputs = .reset (n + 1) :: rest)
    (hs : s.seq ≠ []) : step s = advance { s with inputs := .reset n :: rest } := by
  simp [step, portStep, takenInput, hin, hs, tick]

/-! ## The statements -/

/-- Settles O40: of the steps at `IDLE` only that of a command word run at once calls the transport, and only that, the
acceptance of a word run stepwise and a reset write `ERR`. -/
theorem noLinkActivityOutsideCommands : Obligations.NoLinkActivityOutsideCommands := by
  unfold Obligations.NoLinkActivityOutsideCommands
  intro s t hs h
  cases idleStep_step hs h with
  | quiet hquiet =>
    obtain ⟨hlog, herr⟩ := hquiet
    exact ⟨fun hne => absurd hlog hne, fun hne => absurd herr hne⟩
  | command w rest hw hin => exact ⟨fun _ => ⟨w, rest, hw, hin⟩, fun _ => .inl ⟨w, rest, hw, .inl hin⟩⟩
  | begun w rest hw hin hlink =>
    exact ⟨fun hne => absurd (by rw [hlink]) hne, fun _ => .inl ⟨w, rest, hw, .inr hin⟩⟩
  | reset n rest hin herr hlink =>
    exact ⟨fun hne => absurd (by rw [hlink]) hne, fun _ => .inr ⟨⟨n, rest, hin⟩, herr, hlink⟩⟩

/-- Settles O51, index by index. -/
theorem resetValues : Obligations.ResetValues := by
  unfold Obligations.ResetValues
  refine ⟨fun idx => ?_, rfl, rfl⟩
  by_cases hcal : idx = 0x06 ∨ idx = 0x07
  · rw [if_pos hcal]
    rcases hcal with rfl | rfl <;> rfl
  · rw [if_neg hcal]
    unfold csrRead
    split
    case h_7 | h_8 => simp at hcal
    all_goals rfl

/-- Settles O52: `resetBlock` keeps only what is not the block's, and the countdown of a pending reset does not stop the
running command. -/
theorem resetAbandonsCommand : Obligations.ResetAbandonsCommand := by
  unfold Obligations.ResetAbandonsCommand
  refine ⟨fun s rest hin => ?_, fun n s t rest hin hs ht => ?_⟩
  · exact ⟨_, step_reset hin (.inr rfl), fun idx => csrRead_resetBlock idx _, rfl, rfl, rfl, rfl⟩
  · refine ⟨(step_reset_pending hin hs).trans (advance_eq_next.2 ht), ?_⟩
    obtain ⟨-, -, -, -, -, -, hinputs, -⟩ := seqStep_frame _ t ht
    exact hinputs

/-- Settles O53: the registers are those of a block just reset, and nothing has run. -/
theorem invariantsHoldAtReset : Obligations.InvariantsHoldAtReset := by
  unfold Obligations.InvariantsHoldAtReset
  have hlog : State.reset.logOrdered := rfl
  exact ⟨registersLegal_resetBlock State.reset, .inl ⟨rfl, rfl, rfl, rfl⟩, seqLegal_of_idle rfl rfl,
    hlog.linkLegal (receiving_idle rfl)⟩

end Sys2Proof.Machine

namespace Sys2Proof.Machine

/-! # The decoder and the encoder (30_encoding.md)

The decoder inverts the encoder on the well-formed instructions and on every write frame, and it accepts nothing but
their encodings, so the encoder inverts it in turn. -/

/-! ## Command words (R81, R82) -/

/-- The four forms of a legal word. -/
theorem eq_cmdWord_of_legal {w : Word64} (hw : illegalCmd w = false) :
    (∃ a, w = cmdWord opcReadReg a) ∨ (∃ a, w = cmdWord opcWriteReg a) ∨
      w = cmdWord opcApplySettings 0 ∨ w = cmdWord opcGetReadings 0 := by
  obtain ⟨hres, hform⟩ := (illegalCmd_eq_false_iff w).1 hw
  have hword := (cmdWord_of_reserved hres).symm
  rcases hform with hopc | hopc | ⟨hopc | hopc, haddr⟩
  · exact .inl ⟨_, hopc ▸ hword⟩
  · exact .inr (.inl ⟨_, hopc ▸ hword⟩)
  · exact .inr (.inr (.inl (by rwa [hopc, haddr] at hword)))
  · exact .inr (.inr (.inr (by rwa [hopc, haddr] at hword)))

@[simp] theorem decodeCommand_readReg (a : Byte) : decodeCommand (cmdWord opcReadReg a) = .readReg a := by
  have hw : illegalCmd (cmdWord opcReadReg a) = false := by simp [illegalCmd_eq_false_iff]
  simp [decodeCommand, hw]

@[simp] theorem decodeCommand_writeReg (a : Byte) : decodeCommand (cmdWord opcWriteReg a) = .writeReg a := by
  have hw : illegalCmd (cmdWord opcWriteReg a) = false := by simp [illegalCmd_eq_false_iff]
  have hopc : opcWriteReg ≠ opcReadReg := by decide
  simp [decodeCommand, hw, hopc]

theorem decodeCommand_of_illegal {w : Word64} (hw : illegalCmd w = true) : decodeCommand w = .csrwCmd w := if_pos hw

/-! ## Host writes (R83) -/

theorem csrWritable_iff (idx : Byte) :
    csrWritable idx = true ↔ idx = 0x00 ∨ idx = 0x03 ∨ idx = 0x05 ∨ idx = 0x06 ∨ idx = 0x07 := by
  simp [csrWritable, or_assoc]

theorem decode_hostWrite_of_not_writable {idx : Byte} (h : csrWritable idx = false) (w : Word64) :
    decode (.hostWrite idx w) = .ok (.csrwRefused idx w) := by
  have hidx : ¬ csrWritable idx = true := by simp [h]
  rw [csrWritable_iff] at hidx
  simp only [not_or] at hidx
  obtain ⟨hcmd, harg, hcfg, hdiv, hrsh⟩ := hidx
  exact (readOnlyWriteRefused idx w State.reset hcmd harg hcfg hdiv hrsh).1

/-- Every host write is the encoding of a well-formed instruction. -/
theorem exists_encode_eq_hostWrite (idx : Byte) (w : Word64) :
    ∃ i : Instr, encode i = .hostWrite idx w ∧ i.wellFormed = true := by
  cases hidx : csrWritable idx with
  | false => exact ⟨.csrwRefused idx w, rfl, by simp [Instr.wellFormed, hidx]⟩
  | true =>
    rcases (csrWritable_iff idx).1 hidx with rfl | rfl | rfl | rfl | rfl
    · cases hw : illegalCmd w with
      | true => exact ⟨.csrwCmd w, rfl, hw⟩
      | false =>
        rcases eq_cmdWord_of_legal hw with ⟨a, rfl⟩ | ⟨a, rfl⟩ | rfl | rfl
        · exact ⟨.readReg a, rfl, rfl⟩
        · exact ⟨.writeReg a, rfl, rfl⟩
        · exact ⟨.applySettings, rfl, rfl⟩
        · exact ⟨.getReadings, rfl, rfl⟩
    · exact ⟨.csrwArg w, rfl, rfl⟩
    · exact ⟨.csrwCfg w, rfl, rfl⟩
    · exact ⟨.csrwCalDiv w, rfl, rfl⟩
    · exact ⟨.csrwCalRsh w, rfl, rfl⟩

/-! ## Frames (R71 to R76) -/

/-- The two frames with the read header (R72, R75, R80). -/
theorem decode_encRd (a : Byte) :
    decode (.frame (encRd a)) = .ok (if a = Config.bulkSub then .bulkCmd else .rdCmd a) := by
  by_cases ha : a = Config.bulkSub <;> simp [decode, decodeFrame, encRd, ha]

@[simp] theorem decode_rdRespBytes (v : Word24) (c : Byte) :
    decode (.frame (rdRespBytes v c)) = .ok (.rdResp v c) := by
  simp [decode, decodeFrame, rdRespBytes, enc24]

/-- The decoder does not check the checksum byte of a write frame. -/
@[simp] theorem decode_wrBytes (a : Byte) (v : Word24) (c : Byte) :
    decode (.frame (wrBytes a v c)) = .ok (.wrCmd a v c) := by
  simp [decode, decodeFrame, wrBytes, enc24]

@[simp] theorem decode_bulkRespBytes (f : BulkFrame) : decode (.frame (bulkRespBytes f)) = .ok (.bulkResp f) := by
  simp [decode, decodeFrame]

/-- The bytes of the field at an offset are those of the list. -/
theorem take_append_enc24_bulkField {bs : List Byte} {o : Nat} (h : o + 3 ≤ bs.length) :
    bs.take o ++ enc24 (bulkField bs o) = bs.take (o + 3) := by
  have hfield : enc24 (bulkField bs o) = (bs.drop o).take 3 := by
    obtain ⟨b0, b1, b2, hb⟩ := List.length_eq_three.1 (show ((bs.drop o).take 3).length = 3 by simp; omega)
    rw [bulkField, hb, enc24_dec24]
  rw [hfield, List.take_add]

/-- 35 bytes are the bulk response with the fields at their offsets (R76). -/
theorem bulkRespBytes_bulkFrameOf {bs : List Byte} (h : bs.length = 35) : bulkRespBytes (bulkFrameOf bs) = bs := by
  have hheader : [bs.getD 0 0] = bs.take 1 := by
    simpa using take_append_getD_last (rs := bs.take 1) (n := 0) (by simp [h])
  have hlast := take_append_getD_last h
  simp only [bulkRespBytes, bulkFrameOf, hheader]
  simpa (disch := omega) only [take_append_enc24_bulkField, Nat.reduceAdd] using hlast

/-- The bytes the decoder accepts are those of one of the five frames, but for the checksum byte. -/
theorem frame_of_decode {bs : List Byte} {i : Instr} (h : decode (.frame bs) = .ok i) :
    (∃ a, bs = encRd a) ∨ (∃ v c, bs = rdRespBytes v c) ∨ (∃ a v c, bs = wrBytes a v c) ∨
      (∃ f, bs = bulkRespBytes f) := by
  rw [decode, decodeFrame] at h
  split at h
  case isTrue hlen =>
    split at h
    case isTrue hhdr =>
      match bs, hlen with
      | [b, a], _ =>
        obtain rfl : b = Config.rdHdr := hhdr
        exact .inl ⟨a, rfl⟩
    case isFalse => cases h
  case isFalse =>
    split at h
    case isTrue hlen =>
      match bs, hlen with
      | [b0, b1, b2, c], _ => exact .inr (.inl ⟨dec24 [b0, b1, b2], c, by simp [rdRespBytes]⟩)
    case isFalse =>
      split at h
      case isTrue hlen =>
        split at h
        case isTrue hhdr => exact .inr (.inr (.inl (eq_wrBytes_of_header hlen hhdr)))
        case isFalse => cases h
      case isFalse =>
        split at h
        case isTrue hlen => exact .inr (.inr (.inr ⟨_, (bulkRespBytes_bulkFrameOf hlen).symm⟩))
        case isFalse => cases h

/-! ## The round trips -/

/-- Each constructor's encoding decodes to it; well-formedness is used where two rows share an encoding. -/
theorem decode_encode {i : Instr} (hi : i.wellFormed = true) : decode (encode i) = .ok i := by
  cases i with
  | rdCmd a =>
    have ha : a ≠ Config.bulkSub := by simpa [Instr.wellFormed] using hi
    rw [encode, decode_encRd, if_neg ha]
  | readReg a => exact congrArg Except.ok (decodeCommand_readReg a)
  | writeReg a => exact congrArg Except.ok (decodeCommand_writeReg a)
  | csrwCmd w => exact congrArg Except.ok (decodeCommand_of_illegal hi)
  | csrwRefused idx w =>
    have hidx : csrWritable idx = false := by simpa [Instr.wellFormed] using hi
    exact decode_hostWrite_of_not_writable hidx w
  | rdResp v c => exact decode_rdRespBytes v c
  | wrCmd a v c => exact decode_wrBytes a v c
  | bulkResp f => exact decode_bulkRespBytes f
  | bulkCmd | applySettings | getReadings | csrwArg | csrwCfg | csrwCalDiv | csrwCalRsh | csrr => rfl

/-- The decoder accepts only the encodings of well-formed instructions and of write frames, whose checksum byte it does
not check. -/
theorem exists_encode_of_decode {e : PortEvent} {i : Instr} (h : decode e = .ok i) :
    ∃ j, encode j = e ∧ (j.wellFormed = true ∨ ∃ a v c, j = .wrCmd a v c) := by
  cases e with
  | hostWrite idx w =>
    obtain ⟨j, hj, hwf⟩ := exists_encode_eq_hostWrite idx w
    exact ⟨j, hj, .inl hwf⟩
  | hostRead idx => exact ⟨.csrr idx, rfl, .inl rfl⟩
  | frame bs =>
    rcases frame_of_decode h with ⟨a, rfl⟩ | ⟨v, c, rfl⟩ | ⟨a, v, c, rfl⟩ | ⟨f, rfl⟩
    · by_cases ha : a = Config.bulkSub
      · exact ⟨.bulkCmd, by rw [encode, (encRd_eq_encBulk_iff a).2 ha], .inl rfl⟩
      · exact ⟨.rdCmd a, rfl, .inl (by simpa [Instr.wellFormed] using ha)⟩
    · exact ⟨.rdResp v c, rfl, .inl rfl⟩
    · exact ⟨.wrCmd a v c, rfl, .inr ⟨a, v, c, rfl⟩⟩
    · exact ⟨.bulkResp f, rfl, .inl rfl⟩

/-- What the decoder answers encodes to the event, and is well formed or a write frame. -/
theorem encode_of_decode {e : PortEvent} {i : Instr} (h : decode e = .ok i) :
    encode i = e ∧ (i.wellFormed = true ∨ ∃ a v c, i = .wrCmd a v c) := by
  obtain ⟨j, rfl, hj⟩ := exists_encode_of_decode h
  have hdec : decode (encode j) = .ok j := by
    rcases hj with hwf | ⟨a, v, c, rfl⟩
    · exact decode_encode hwf
    · exact decode_wrBytes a v c
  obtain rfl : j = i := Except.ok.inj (hdec.symm.trans h)
  exact ⟨rfl, hj⟩

/-- Only write frames have 6 bytes. -/
theorem eq_wrCmd_of_encode_length {i : Instr} {f : List Byte} (hf : encode i = .frame f) (hlen : f.length = 6) :
    ∃ a v c, i = .wrCmd a v c := by
  cases i with
  | wrCmd a v c => exact ⟨a, v, c, rfl⟩
  | rdCmd | rdResp | bulkCmd | bulkResp => cases hf; cases hlen
  | _ => cases hf

/-- A write frame is ill formed exactly when its sum does not close (40_checksum.md R106). -/
theorem wellFormed_wrCmd_eq_false_iff (a : Byte) (v : Word24) (c : Byte) :
    (Instr.wrCmd a v c).wellFormed = false ↔ byteSum (wrBytes a v c) % 256 ≠ 255 := by
  rw [Instr.wellFormed, beq_eq_false_iff_ne, ne_comm, ne_eq, wrBytes_eq_encWr_iff_closes]

/-! ## The obligations -/

/-- Settles O14, constructor by constructor. -/
theorem decodeEncodeRoundTrip : Obligations.DecodeEncodeRoundTrip := by
  unfold Obligations.DecodeEncodeRoundTrip
  exact fun _ => decode_encode

/-- Settles O15: an ill-formed answer is a write frame, the only frame of 6 bytes. -/
theorem encodeDecodeRoundTrip : Obligations.EncodeDecodeRoundTrip := by
  unfold Obligations.EncodeDecodeRoundTrip
  intro e i h
  obtain ⟨rfl, hi⟩ := encode_of_decode h
  refine ⟨rfl, fun hill => ?_, ?_⟩
  · obtain ⟨a, v, c, rfl⟩ := hi.resolve_left (by simp [hill])
    exact ⟨wrBytes a v c, rfl, rfl, (wellFormed_wrCmd_eq_false_iff a v c).1 hill⟩
  · rintro ⟨f, hf, hlen, hsum⟩
    obtain ⟨a, v, c, rfl⟩ := eq_wrCmd_of_encode_length hf hlen
    cases hf
    exact (wellFormed_wrCmd_eq_false_iff a v c).2 hsum

/-- Settles O16: each event is, byte for byte, the encoding of its instruction. -/
theorem writtenOutWordsDecode : Obligations.WrittenOutWordsDecode := by
  unfold Obligations.WrittenOutWordsDecode
  exact ⟨decode_encode (i := .rdCmd 0x18) rfl, decode_encode (i := .rdResp 0x123456 0xF3) rfl,
    decode_encode (i := .wrCmd 0x18 0x123456 0xA3) rfl, decode_encode (i := .bulkCmd) rfl,
    decode_encode (i := .readReg 0x0C) rfl, decode_encode (i := .writeReg 0x18) rfl,
    decode_encode (i := .applySettings) rfl, decode_encode (i := .getReadings) rfl,
    decode_encode (i := .csrwCfg 0x39) rfl, decode_encode (i := .csrwRefused 0x08 0x01) rfl,
    decode_encode (i := .csrr 0x80) rfl⟩

end Sys2Proof.Machine
